-- ==== Sys2Proof/Word.lean ====
section
/-! DEFINITION. The widths the FB2416 speaks in: bytes and half words of the host port, generation numbers, sensor counts. -/

namespace Sys2Proof

/-- One byte of the host port or of a panel link (R179, R161). -/
abbrev Byte := BitVec 8

/-- A two-byte number of the host port (R179). -/
abbrev Half := BitVec 16

/-- A generation number: 32 bits, wrapping (00_scope, Conventions: Generations; R79). -/
abbrev Gen := BitVec 32

/-- A counter of the part: 16 bits, saturating (00_scope, Conventions: Counters). -/
abbrev Count := BitVec 16

/-- A pivot sensor reading, 0..4095 (R2). -/
abbrev RawCount := BitVec 12

/-- A placement entry's handle, 0..31 (R49). -/
abbrev Handle := Fin 32

/-- An index into Script Memory, 0..255 (R154). -/
abbrev StepIndex := Fin 256

end Sys2Proof
end

