-- ==== Sys2Proof/Syntax.lean ====
section
/-! DEFINITION. The commands and events the FB2416 takes: one constructor of `Instr` per row of spec/opcode_table.json,
with the operands each carries. Host commands carry their argument fields at the widths of R179, before any check,
so that a value out of range reaches the rule that refuses it (R180). -/

namespace Sys2Proof

/-- Panel A is the left half of the open tablet, panel B the right (00_scope, Where the part sits). -/
inductive Panel where
  | a | b
deriving DecidableEq, Repr

/-- The two pivots of the hinge (chapter 1). -/
inductive Pivot where
  | left | right
deriving DecidableEq, Repr

/-- A 24-bit colour: red, green, blue, each 0..255 (R37). -/
structure Colour where
  red : Byte
  green : Byte
  blue : Byte
deriving DecidableEq, Repr

/-- Levels of the three straps; true is high (R188, R190). -/
structure Straps where
  pola : Bool
  polb : Bool
  leadsel : Bool
deriving DecidableEq, Repr

/-- The fields of a profile as PROFILE WRITE carries them (R37, R38), in the order listed there. -/
structure RawProfile where
  demandA : Byte
  demandB : Byte
  rotationA : Byte
  rotationB : Byte
  span : Byte
  red : Byte
  green : Byte
  blue : Byte
deriving DecidableEq, Repr

/-- The 28 bytes of entry fields that ENTRY BIND and ENTRY SET carry (R56, R179), in the order listed there. -/
structure RawEntry where
  tag : Half
  sx : Half
  sy : Half
  sw : Half
  sh : Half
  home : Byte
  hx : Half
  hy : Half
  guestPresent : Byte
  gx : Half
  gy : Half
  spanPresent : Byte
  px : Half
  py : Half
  priority : Byte
  fit : Byte
  visibility : Byte
deriving DecidableEq, Repr

/-- A script step as SCRIPT WRITE and SCRIPT READ carry it: 14 bytes (R179). -/
abbrev RawStep := Vector Byte 14

/-- One constructor per row of spec/opcode_table.json: the events that reach a block and the commands of the host port. -/
inductive Instr where
  /-- SAMPLE_INTERVAL_EXPIRY (R1). -/
  | sampleIntervalExpiry
  /-- SENSOR_REPLY (R2): the pivot, the raw count and the field-OK indication of the reply. -/
  | sensorReply (p : Pivot) (raw : RawCount) (fieldOk : Bool)
  /-- SENSOR_READ_TIMEOUT (R2): 1 ms after the request to this pivot's sensor. -/
  | sensorReadTimeout (p : Pivot)
  /-- SOURCE_FRAME_START (R72). -/
  | sourceFrameStart
  /-- LINE_END (R71): the line's pixel count and its pixels; a pixel of the line past the listed ones is black. -/
  | lineEnd (count : BitVec 12) (pixels : List Colour)
  /-- SOURCE_FRAME_END (R73). -/
  | sourceFrameEnd
  /-- OUTPUT_FRAME_START (R75, R89). -/
  | outputFrameStart
  /-- FRMREQ_PULSE_END (R76). -/
  | frmreqPulseEnd
  /-- OUTPUT_FRAME_END (R69, R170). -/
  | outputFrameEnd
  /-- PANEL_LINK_REPLY (R161): the bytes of a packet that arrives on the panel's link, check byte last. -/
  | panelLinkReply (x : Panel) (packet : List Byte)
  /-- REPLY_TIMEOUT (R161). -/
  | replyTimeout (x : Panel)
  /-- WAIT_END (R166). -/
  | waitEnd (x : Panel)
  /-- POLL_READ_DUE (R165). -/
  | pollReadDue (x : Panel)
  /-- POLL_TIMEOUT (R165). -/
  | pollTimeout (x : Panel)
  /-- ATTENTION (R141): the panel's attention line is driven asserted. -/
  | attention (x : Panel)
  /-- LINGER_EXPIRY (R137). -/
  | lingerExpiry (x : Panel)
  /-- RECOVERY_WINDOW_CLOSE (R143). -/
  | recoveryWindowClose (x : Panel)
  /-- COMMAND_LINK_ERROR (R174): the whole bytes sampled on SDI between the falling and the rising edge of CSN. -/
  | commandLinkError (bytes : List Byte)
  /-- REPLY_READ (R177): how many whole bytes the host clocks out after the kind byte. -/
  | replyRead (clocked : Nat)
  /-- START_UP_WINDOW_CLOSE (R189). -/
  | startUpWindowClose
  /-- PIN_RESET (R189): a low pulse on RESETN, judged by its length in nanoseconds. -/
  | pinReset (lowNs : Nat)
  /-- RESETN_RELEASE (R190): the rising edge of RESETN, with the strap levels at that moment. -/
  | resetnRelease (straps : Straps)
  /-- IDENTIFY (R188). -/
  | identify
  /-- SOFT_RESET (R191). -/
  | softReset
  /-- NOTIFY_READ (R184). -/
  | notifyRead
  /-- NOTIFY_ENABLE (R185). -/
  | notifyEnable (value mask : Half)
  /-- NOTIFY_CLEAR (R186). -/
  | notifyClear (mask : Half)
  /-- HINGE_CONFIG (R21). -/
  | hingeConfig (interval shift skewLimit : Half)
  /-- HINGE_READ (R22). -/
  | hingeRead
  /-- ZERO_WRITE (R15). -/
  | zeroWrite (zeroL zeroR : Half)
  /-- ZERO_CAPTURE (R16). -/
  | zeroCapture
  /-- ZERO_READ (R20). -/
  | zeroRead
  /-- ZONES_WRITE (R26). -/
  | zonesWrite (b1 b2 b3 b4 b5 : Half)
  /-- ZONES_READ (R28). -/
  | zonesRead
  /-- POSTURE_CONFIG (R34). -/
  | postureConfig (hysteresis dwell margin : Half)
  /-- PROFILE_WRITE (R38). -/
  | profileWrite (posture : Byte) (fields : RawProfile)
  /-- PROFILE_READ (R39). -/
  | profileRead (posture : Byte)
  /-- TRACK_MODE_TRACK (R35). -/
  | trackModeTrack
  /-- TRACK_MODE_HOLD (R35). -/
  | trackModeHold
  /-- TRACK_MODE_FORCE (R36). -/
  | trackModeForce (posture : Byte)
  /-- LEAD_SET (R40). -/
  | leadSet (panel : Byte)
  /-- POSTURE_READ (R46). -/
  | postureRead
  /-- ENTRY_BIND (R56). -/
  | entryBind (fields : RawEntry)
  /-- ENTRY_SET (R58). -/
  | entrySet (handle selection : Byte) (fields : RawEntry)
  /-- ENTRY_RETIRE (R60). -/
  | entryRetire (handle : Byte)
  /-- TAG_RETIRE (R61). -/
  | tagRetire (tag : Half)
  /-- ENTRY_READ (R65). -/
  | entryRead (handle view : Byte)
  /-- ENTRY_STATUS (R66). -/
  | entryStatus (handle : Byte)
  /-- TAG_FIND (R64). -/
  | tagFind (tag : Half)
  /-- TABLE_PUBLISH (R79). -/
  | tablePublish
  /-- DRAFT_REVERT (R62). -/
  | draftRevert
  /-- PLACEMENT_READ (R111). -/
  | placementRead (handle : Byte)
  /-- REFLOW_READ (R105). -/
  | reflowRead
  /-- LAYERS_READ (R127). -/
  | layersRead
  /-- TIMING_SET (R70). -/
  | timingSet (rate : Byte)
  /-- FRAME_STATUS (R86). -/
  | frameStatus
  /-- SCRIPT_WRITE (R156). -/
  | scriptWrite (start : Byte) (steps : List RawStep)
  /-- SCRIPT_READ (R158). -/
  | scriptRead (start count : Byte)
  /-- SLOT_SET (R157). -/
  | slotSet (panel slot present index : Byte)
  /-- PANEL_RESTART (R147). -/
  | panelRestart (panel : Byte)
  /-- PANEL_STOP (R148). -/
  | panelStop (panel : Byte)
  /-- PANEL_CHECK (R149). -/
  | panelCheck (panel : Byte)
  /-- PANEL_READ (R150). -/
  | panelRead (panel : Byte)
  /-- PANEL_CONFIG (R139). -/
  | panelConfig (linger : Half)
  /-- ATTENTION_LINE_RELEASE (R141). -/
  | attentionLineRelease (x : Panel)
  /-- TRACK_MODE_INVALID_MODE (R35): a TRACK MODE whose mode byte names none of the three, with its posture byte. -/
  | trackModeInvalidMode (mode posture : Byte)
deriving DecidableEq, Repr

end Sys2Proof
end

