-- ==== Sys2Proof/Machine/Packet.lean ====
section
/-! DEFINITION. The packets of the host port: CRC-8, the catalogue's argument lengths, and the judgement of a COMMAND
transaction (R173 to R175, R181). -/

namespace Sys2Proof.Machine

/-- One shift of the CRC-8 register with generator x^8 + x^2 + x + 1 (R175). -/
def crcShift (c : Byte) : Byte :=
  if c.msb then (c <<< 1) ^^^ 0x07#8 else c <<< 1

/-- A byte enters the CRC-8 register, most significant bit first (R175). -/
def crcByte (c b : Byte) : Byte :=
  crcShift^[8] (c ^^^ b)

/-- The CRC-8 of the host port and of the panel links: initial value 0, no final inversion (R175, R161). -/
def crc8 (bytes : List Byte) : Byte :=
  bytes.foldl crcByte 0

/-- The link errors that the judgement of a COMMAND transaction gives (R174), and UNREAD (R176). -/
inductive LinkError where
  | framing | check | length | unknown | unread
deriving DecidableEq, Repr

/-- The argument lengths the catalogue allows for an opcode; none for an opcode that names no command (R181). -/
def argLengths (opcode : Byte) : List Nat :=
  match opcode.toNat with
  | 0x01 => [0] | 0x02 => [0] | 0x03 => [0] | 0x04 => [4] | 0x05 => [2]
  | 0x10 => [6] | 0x11 => [0] | 0x12 => [4] | 0x13 => [0] | 0x14 => [0]
  | 0x20 => [10] | 0x21 => [0] | 0x22 => [6] | 0x23 => [9] | 0x24 => [1] | 0x25 => [2] | 0x26 => [1] | 0x27 => [0]
  | 0x30 => [28] | 0x31 => [30] | 0x32 => [1] | 0x33 => [2] | 0x34 => [2] | 0x35 => [1] | 0x36 => [2] | 0x37 => [0]
  | 0x38 => [0]
  | 0x40 => [1] | 0x41 => [0] | 0x42 => [0] | 0x43 => [1] | 0x44 => [0]
  | 0x50 => [1, 15, 29, 43, 57] | 0x51 => [2] | 0x52 => [4] | 0x53 => [1] | 0x54 => [1] | 0x55 => [1] | 0x56 => [1]
  | 0x57 => [2]
  | _ => []

/-- Outcome of the judgement of a COMMAND transaction (R174). -/
inductive Judged where
  | bad (e : LinkError)
  | good (opcode : Byte) (args : List Byte)
deriving DecidableEq, Repr

/-- The six tests of R174, in order, over the whole bytes received between the edges of CSN. Bytes after the check
byte are ignored. -/
def judge (bytes : List Byte) : Judged :=
  match bytes with
  | [] => .bad .framing
  | kind :: rest =>
    if kind ≠ 0x5A#8 then .bad .framing
    else match rest with
      | opcode :: len :: body =>
        if 60 < len.toNat then .bad .length
        else if body.length ≤ len.toNat then .bad .framing
        else
          let args := body.take len.toNat
          if body.getD len.toNat 0 ≠ crc8 (opcode :: len :: args) then .bad .check
          else if argLengths opcode = [] then .bad .unknown
          else if len.toNat ∉ argLengths opcode then .bad .length
          else .good opcode args
      | _ => .bad .framing

/-- The link error of a transaction, when it is a COMMAND transaction that is not good (R173, R174): kind byte 0xA5
makes it a REPLY READ, which has none (R177). -/
def linkErrorOf (bytes : List Byte) : Option LinkError :=
  if bytes.head? = some 0xA5#8 then none
  else match judge bytes with
    | .bad e => some e
    | .good _ _ => none

/-- The COMMAND packet with the given opcode and arguments (R174, R179). -/
def commandPacket (opcode : Byte) (args : List Byte) : List Byte :=
  let covered := opcode :: BitVec.ofNat 8 args.length :: args
  0x5A#8 :: covered ++ [crc8 covered]

end Sys2Proof.Machine
end

