-- ==== Sys2Proof/Machine/State.lean ====
section
/-! DEFINITION. The state of the FB2416, block by block, as plain data, and its values after pin reset. -/

namespace Sys2Proof.Machine

/-! ## Hinge Unit (chapter 1) -/

/-- One pivot's measurement state (table 1.1). The polarity is computed from the sampled straps (R190). -/
structure PivotState where
  zero : RawCount
  lastGood : Option RawCount
  missRun : Count
  missTotal : Count
  clamped : Bool
  delta : Option Int
deriving DecidableEq, Repr

/-- One read of a sample (R2). -/
inductive Reading where
  | waiting
  | fresh (raw : RawCount)
  | miss
deriving DecidableEq, Repr

/-- A sample whose reads are in flight (R1, R2); `contributes` when its interval expired during a zero capture (R16). -/
structure Sample where
  requestedAt : Nat
  left : Reading
  right : Reading
  contributes : Bool
deriving DecidableEq, Repr

/-- Conditions that hold the angle (R11). -/
structure AngleFaults where
  lostL : Bool
  lostR : Bool
  skew : Bool
deriving DecidableEq, Repr

/-- The angle state with what each state holds (table of 1.6): the filter accumulator F in TRACKING and FAULTED,
the fault set and the clean count in FAULTED. -/
inductive AngleTrack where
  | acquiring
  | tracking (filter : Nat)
  | faulted (filter : Nat) (faults : AngleFaults) (clean : Nat)
deriving DecidableEq, Repr

/-- A pivot's share of a zero capture: the first reading r1 and the sum of offsets (R17). -/
structure CaptureSum where
  first : RawCount
  sum : Int
deriving DecidableEq, Repr

/-- The zero capture context (R16, R17): no sample counted yet, or so many. -/
inductive Capture where
  | started
  | counting (counted : Nat) (left right : CaptureSum)
deriving DecidableEq, Repr

/-- Outcome of the latest zero capture to end (R17, R18). -/
inductive CaptureResult where
  | none | ok | failed
deriving DecidableEq, Repr

/-- State of the Hinge Unit (table 1.1). -/
structure Hinge where
  left : PivotState
  right : PivotState
  skewLimit : Nat
  skew : Option Nat
  skewRun : Count
  interval : Nat
  nextSampleAt : Nat
  sample : Option Sample
  shift : Nat
  angle : AngleTrack
  instant : Option Nat
  seedPending : Bool
  capture : Option Capture
  lastResult : CaptureResult
  samples : Count
  overLimit : Count
  faultEntries : Count
deriving DecidableEq, Repr

/-! ## Posture Unit (chapter 2) -/

/-- The six settled postures; their numbers are their zones. NONE is the absence of one. -/
inductive Posture where
  | shut | peek | book | flat | tent | backfold
deriving DecidableEq, Repr

/-- The zone boundary table b1..b5 (R25). -/
structure Zones where
  b1 : Nat
  b2 : Nat
  b3 : Nat
  b4 : Nat
  b5 : Nat
deriving DecidableEq, Repr

/-- Demand field of a profile (R37). -/
inductive Demand where
  | on | off | lead | trail
deriving DecidableEq, Repr

/-- A posture's profile (R37); a `turned` panel has rotation 180. -/
structure Profile where
  demandA : Demand
  demandB : Demand
  turnedA : Bool
  turnedB : Bool
  spanAllowed : Bool
  background : Colour
deriving DecidableEq, Repr

inductive TrackMode where
  | track | hold | forced
deriving DecidableEq, Repr

/-- What the Hinge Unit hands over at a sample completion (R14, R29). -/
inductive AngleReport where
  | acquiring
  | tracking (angle : Nat)
  | faulted (angle : Nat)
deriving DecidableEq, Repr

/-- The dwell candidate with the dwell count (R33); the count is 0 exactly when the candidate is absent. -/
structure Dwelling where
  candidate : Posture
  count : Nat
deriving DecidableEq, Repr

/-- The pair (demand, wanted) of R44. -/
structure Want where
  demand : Bool
  wanted : Bool
deriving DecidableEq, Repr

/-- Per panel: resolved demand, pre-demand and the pair last delivered (R41, R42, R44). -/
structure PanelNeed where
  demand : Bool
  preDemand : Bool
  delivered : Want
deriving DecidableEq, Repr

/-- State of the Posture Unit (table 2.1); `posture = none` is NONE. -/
structure PostureUnit where
  zones : Zones
  pendingZones : Option Zones
  hysteresis : Nat
  dwell : Nat
  margin : Nat
  mode : TrackMode
  posture : Option Posture
  dwelling : Option Dwelling
  profiles : Vector Profile 6
  lead : Panel
  report : AngleReport
  needA : PanelNeed
  needB : PanelNeed
deriving DecidableEq, Repr

/-! ## Placement Table (chapter 3) -/

/-- A rectangle: origin, width and height (00_scope, Coordinates). -/
structure Rect where
  x : Nat
  y : Nat
  w : Nat
  h : Nat
deriving DecidableEq, Repr

structure Point where
  x : Nat
  y : Nat
deriving DecidableEq, Repr

inductive FitMode where
  | crop | halve | hide
deriving DecidableEq, Repr

/-- A placement entry without its handle (R49, R50), which is its place in the view. Bits 0..5 of `visibility`
are SHUT to BACKFOLD. -/
structure Entry where
  tag : Half
  source : Rect
  home : Panel
  homeAt : Point
  guestAt : Option Point
  spanAt : Option Point
  priority : Fin 8
  fit : FitMode
  visibility : BitVec 6
deriving DecidableEq, Repr

/-- A set of entries keyed by handle (R52): no handle twice, at most 32. -/
abbrev View := Vector (Option Entry) 32

/-- A published view: entries with their generation (R52, R79). -/
structure Published where
  gen : Gen
  view : View
deriving DecidableEq, Repr

/-- State of the Placement Table (table 3.1). -/
structure Table where
  draft : View
  staged : Option Published
  capture : Published
  shown : Published
  register : Gen
  superseded : Count
deriving DecidableEq, Repr

/-! ## Frame Store (chapter 4) -/

/-- The pixels of a frame bank: (row, its pixels from column 0) for the rows that are not black throughout, rows
strictly rising, no black pixels at a row's end. Pixels not listed are black, as in the blank frame. -/
abbrev Bank := List (Nat × List Colour)

/-- State of the capture bank, with the frame in progress while FILLING (R71). -/
inductive CaptureBank where
  | empty
  | filling (lines : Nat) (malformed : Bool)
  | complete
deriving DecidableEq, Repr

inductive FrameRate where
  | hz60 | hz90 | hz120
deriving DecidableEq, Repr

/-- State of the Frame Store (table 4.1); `frmreq` holds the moment at which the pulse under way rose. -/
structure FrameStore where
  rate : FrameRate
  periodStart : Nat
  scan : Bank
  scanCaptured : Bool
  capture : Bank
  captureState : CaptureBank
  flips : Count
  repeats : Count
  dropped : Count
  truncated : Count
  malformed : Count
  frmreq : Option Nat
deriving DecidableEq, Repr

/-! ## Panel Controllers, Script Engines (chapters 7 and 8) -/

inductive PanelState where
  | dark | waking | live | idle | sleeping | fault
deriving DecidableEq, Repr

inductive ScriptSlot where
  | wake | sleep | check
deriving DecidableEq, Repr

inductive StepKind where
  | send | read | poll | wait | line | goto | finish
deriving DecidableEq, Repr

/-- The two panel lines a LINE step drives (R154). -/
inductive PanelLine where
  | reset | power
deriving DecidableEq, Repr

/-- A step's kind with its fields (R154); READ and POLL hold one (mask, value) pair per byte read. -/
inductive StepBody where
  | send (code : Byte) (args : List Byte)
  | read (code : Byte) (bytes : List (Byte × Byte))
  | poll (code : Byte) (bytes : List (Byte × Byte)) (interval timeout : Nat)
  | wait (duration : Nat)
  | line (which : PanelLine) (asserted : Bool)
  | goto (target : StepIndex)
  | finish
deriving DecidableEq, Repr

/-- A step of Script Memory (R154). -/
structure Step where
  tolerate : Bool
  body : StepBody
deriving DecidableEq, Repr

/-- Step errors (R167); REPORTED carries the panel-reported error set, bits 0..3 for CHECKSUM, UNKNOWN, LENGTH, INTERNAL. -/
inductive StepError where
  | noReply
  | reported (errors : BitVec 4)
  | protocol
  | mismatch
  | pollTimeout
  | runaway
deriving DecidableEq, Repr

/-- The step fields of a failure completion and of the last tolerated error (R132, R167). -/
structure StepFailure where
  slot : ScriptSlot
  index : StepIndex
  kind : StepKind
  error : StepError
deriving DecidableEq, Repr

/-- Phase of the step under way (R160): waiting to start a transaction; awaiting a reply to the packet whose sending
ends at `packetEnds` (R161), a reply that can no longer be received once `lost` (R170); waiting out a WAIT; waiting
between reads of a POLL. -/
inductive Phase where
  | waitStart
  | awaitReply (packetEnds : Nat) (lost : Bool)
  | waiting (endsAt : Nat)
  | pollGap (dueAt : Nat)
deriving DecidableEq, Repr

/-- The run context of a Script Engine (R160); `pollBegan` is the moment the POLL under way began. `completionStart` is
the model's own: the run's first index and the moment of its start, when a script completion started the run and none of
its steps has ended in a later event; PANEL STOP reads it (R148, assumption 24). -/
structure Run where
  slot : ScriptSlot
  index : StepIndex
  count : Nat
  phase : Phase
  pollBegan : Nat
  completionStart : Option (StepIndex × Nat)
deriving DecidableEq, Repr

/-- The linger timer (R137). -/
inductive Linger where
  | absent
  | running (expiresAt : Nat)
  | held
deriving DecidableEq, Repr

inductive FaultKind where
  | script | recoveryLimit | stopped
deriving DecidableEq, Repr

/-- The fault record (R145): slot, step index and step kind together, and the step error. -/
structure FaultRecord where
  kind : FaultKind
  left : PanelState
  step : Option (ScriptSlot × StepIndex × StepKind)
  error : Option StepError
deriving DecidableEq, Repr

/-- What a row of the running frame carries on the panel link (R123). -/
inductive RowContent where
  | off | black | background | layers
deriving DecidableEq, Repr

/-- Rows from `fromRow` on carry `content` (R124). -/
structure Segment where
  fromRow : Nat
  content : RowContent
deriving DecidableEq, Repr

/-- State of one Panel Controller, its Script Engine (R160) and its scanout (R123 to R125); `frameRows` lists the
running frame's segments, newest first. `packet` is the latest command packet on the panel's link, and `packetCut` says that
an abort cut it short, so that the panel receives it with a wrong check (R171); both are the model's own record of an output
(assumption 17). -/
structure PanelUnit where
  state : PanelState
  demandIn : Bool
  wantedIn : Bool
  run : Option Run
  linger : Linger
  latched : Bool
  recoveryCount : Nat
  recoveryWindow : Option Nat
  faultRecord : Option FaultRecord
  tolerated : Option StepFailure
  resetAsserted : Bool
  powerAsserted : Bool
  attentions : Count
  recoveries : Count
  faultEntries : Count
  attentionLine : Bool
  layersEnabled : Bool
  frameRows : List Segment
  packet : List Byte
  packetCut : Bool
deriving DecidableEq, Repr

/-- A panel's three script slots (R155). -/
structure Slots where
  wake : Option StepIndex
  sleep : Option StepIndex
  check : Option StepIndex
deriving DecidableEq, Repr

/-- Script Memory and the slot table (R154, R155). -/
structure ScriptMemory where
  steps : Vector Step 256
  slotsA : Slots
  slotsB : Slots
deriving DecidableEq, Repr

/-! ## Composition Unit (chapters 5 and 6) -/

inductive Kind where
  | none | home | guest | span
deriving DecidableEq, Repr

inductive Reason where
  | unsettled | notVisible | noLivePanel | hiddenByFit
deriving DecidableEq, Repr

inductive Target where
  | panelA | panelB | span
deriving DecidableEq, Repr

inductive OriginKind where
  | home | guest | centred | span
deriving DecidableEq, Repr

/-- The origin taken (R110). -/
structure OriginTaken where
  kind : OriginKind
  at_ : Point
deriving DecidableEq, Repr

inductive FitApplied where
  | none | crop | halve | hide
deriving DecidableEq, Repr

/-- A rectangle on a target or panel with the canvas column and row it starts from (R94, R99). -/
structure Part where
  rect : Rect
  start : Point
deriving DecidableEq, Repr

/-- A shown rectangle with its source start and its source step of 1 or 2 (R94). -/
structure Shown where
  part : Part
  step : Nat
deriving DecidableEq, Repr

/-- Layer field of a record (R110, R116). -/
inductive LayerField where
  | slot (n : Fin 6)
  | starved
  | notHere
deriving DecidableEq, Repr

/-- The effective placement record (R110). -/
structure Record where
  inShown : Bool
  gen : Gen
  kind : Kind
  reason : Option Reason
  target : Option Target
  origin : Option OriginTaken
  fit : Option FitApplied
  shown : Option Shown
  provisional : Bool
  partA : Option Part
  partB : Option Part
  layerA : LayerField
  layerB : LayerField
deriving DecidableEq, Repr

/-- The pair compared for handover (R106): the kind and the panel set. -/
structure PlacementPair where
  kind : Kind
  onA : Bool
  onB : Bool
deriving DecidableEq, Repr

/-- A layer of a stack (6.1). -/
structure Layer where
  handle : Handle
  priority : Fin 8
  part : Part
  step : Nat
deriving DecidableEq, Repr

/-- The scan context of a panel (R120). -/
structure ScanContext where
  gen : Gen
  background : Colour
  turned : Bool
  panelState : PanelState
deriving DecidableEq, Repr

/-- Layer stack, starved list, scan context and starved counter of a panel (6.1). -/
structure PanelStack where
  stack : List Layer
  starved : List Handle
  context : ScanContext
  starvedTotal : Count
deriving DecidableEq, Repr

/-- State of the Composition Unit (tables 5.1 and 6.1). -/
structure Composition where
  records : Vector Record 32
  reflow : List Handle
  memory : Vector (Option PlacementPair) 32
  stackA : PanelStack
  stackB : PanelStack
deriving DecidableEq, Repr

/-! ## Command Port (chapter 9) -/

inductive Status where
  | done | started | busy | range | state | exhausted | absent | none
deriving DecidableEq, Repr

/-- A reply: status and data bytes (R176, R179). -/
structure Reply where
  status : Status
  data : List Byte
deriving DecidableEq, Repr

/-- What SDO carried between CSN's fall and rise in the latest transaction (R173, R177, R189): no transaction yet, so not
driven; low throughout; or a REPLY READ's bytes after a kind byte of low. The model's own record of an output
(assumption 17). -/
inductive SdoDrive where
  | undriven
  | low
  | reply (bytes : List Byte)
deriving DecidableEq, Repr

/-- State of the Command Port (table 9.1). `linkErrors` holds FRAMING, CHECK, LENGTH, UNKNOWN, UNREAD in bits 0..4,
`flags` and `enables` the flags of R182 by their bits, `startUpCloses` the moment the open start-up window closes.
`sdo` is the model's own: what the latest transaction drove on SDO (assumption 17). -/
structure Port where
  reply : Option Reply
  replyRead : Bool
  linkErrors : BitVec 5
  flags : BitVec 10
  enables : BitVec 10
  startUpCloses : Option Nat
  straps : Straps
  sdo : SdoDrive
deriving DecidableEq, Repr

/-! ## The machine -/

/-- The state of the part. `pending` (the waiting commands), `now` (microseconds) and `shortPulses` are the model's own. -/
structure State where
  pending : List Instr
  now : Nat
  inReset : Bool
  shortPulses : Nat
  hinge : Hinge
  posture : PostureUnit
  table : Table
  frame : FrameStore
  comp : Composition
  panelA : PanelUnit
  panelB : PanelUnit
  lingerTime : Nat
  scripts : ScriptMemory
  port : Port
deriving DecidableEq, Repr

/-- The part never stops with a fault: the spec answers or ignores every command and takes every event, so no
constructor stands here and none is raised (assumption 20). Safe: nothing is claimed of a stop. -/
inductive Fault where
deriving DecidableEq, Repr

/-- Reasons to refuse a command. -/
inductive Refusal where
  /-- Raised only by an arm of `exec` for a row that has no meaning yet (none at present). Safe: the run stops. -/
  | notModelled (mnemonic : String)
deriving DecidableEq, Repr

/-- Outcome of a command. -/
abbrev Result := Host.Outcome State Fault Refusal

/-! ## Values after pin reset -/

/-- Black: red, green and blue 0 (R37). -/
def Colour.black : Colour := ⟨0, 0, 0⟩

/-- A pivot after pin reset (R23). -/
def PivotState.reset : PivotState :=
  { zero := 0, lastGood := none, missRun := 0, missTotal := 0, clamped := false, delta := none }

/-- The Hinge Unit after pin reset (R23). -/
def Hinge.reset : Hinge :=
  { left := PivotState.reset, right := PivotState.reset, skewLimit := 91, skew := none, skewRun := 0,
    interval := 10, nextSampleAt := 0, sample := none, shift := 2, angle := .acquiring, instant := none,
    seedPending := false, capture := none, lastResult := .none, samples := 0, overLimit := 0, faultEntries := 0 }

/-- The default zone boundaries (R25). -/
def Zones.default : Zones := ⟨150, 700, 1500, 2050, 3300⟩

/-- The default profiles, SHUT to BACKFOLD (table of R37). -/
def Profile.defaults : Vector Profile 6 :=
  #v[⟨.off, .off, false, false, false, Colour.black⟩,
     ⟨.lead, .lead, false, false, false, Colour.black⟩,
     ⟨.on, .on, false, false, false, Colour.black⟩,
     ⟨.on, .on, false, false, true, Colour.black⟩,
     ⟨.on, .on, false, true, false, Colour.black⟩,
     ⟨.lead, .lead, false, false, false, Colour.black⟩]

/-- A panel neither demanded, pre-demanded nor wanted (R47). -/
def PanelNeed.reset : PanelNeed := ⟨false, false, ⟨false, false⟩⟩

/-- The lead panel that a LEADSEL level gives (R40). -/
def leadOf (leadsel : Bool) : Panel := if leadsel then .b else .a

/-- The Posture Unit after a reset with the given LEADSEL level (R47, R48). -/
def PostureUnit.reset (leadsel : Bool) : PostureUnit :=
  { zones := Zones.default, pendingZones := none, hysteresis := 30, dwell := 3, margin := 150, mode := .track,
    posture := none, dwelling := none, profiles := Profile.defaults, lead := leadOf leadsel, report := .acquiring,
    needA := PanelNeed.reset, needB := PanelNeed.reset }

/-- The empty view. -/
def View.empty : View := Vector.replicate 32 none

/-- The Placement Table after either reset (R67, R68). -/
def Table.reset : Table :=
  { draft := View.empty, staged := none, capture := ⟨0, View.empty⟩, shown := ⟨0, View.empty⟩,
    register := 0, superseded := 0 }

/-- The Frame Store after either reset, its period begun at `start` (R87, R88). -/
def FrameStore.reset (start : Nat) : FrameStore :=
  { rate := .hz60, periodStart := start, scan := [], scanCaptured := false, capture := [], captureState := .empty,
    flips := 0, repeats := 0, dropped := 0, truncated := 0, malformed := 0, frmreq := none }

/-- The vacant record of R110, for a composition that read generation `gen`. -/
def Record.vacant (gen : Gen) : Record :=
  { inShown := false, gen := gen, kind := .none, reason := some .unsettled, target := none, origin := none,
    fit := none, shown := none, provisional := false, partA := none, partB := none,
    layerA := .notHere, layerB := .notHere }

/-- A panel's scanout state of the Composition Unit after either reset (R129, R130). -/
def PanelStack.reset : PanelStack :=
  { stack := [], starved := [], context := ⟨0, Colour.black, false, .dark⟩, starvedTotal := 0 }

/-- The Composition Unit after either reset (R112, R113, R129, R130). -/
def Composition.reset : Composition :=
  { records := Vector.replicate 32 (Record.vacant 0), reflow := [], memory := Vector.replicate 32 none,
    stackA := PanelStack.reset, stackB := PanelStack.reset }

/-- A Panel Controller after either reset (R152, R153, R172); the attention line is an input and keeps its level. -/
def PanelUnit.reset (attentionLine : Bool) : PanelUnit :=
  { state := .dark, demandIn := false, wantedIn := false, run := none, linger := .absent, latched := false,
    recoveryCount := 0, recoveryWindow := none, faultRecord := none, tolerated := none, resetAsserted := true,
    powerAsserted := false, attentions := 0, recoveries := 0, faultEntries := 0, attentionLine := attentionLine,
    layersEnabled := false, frameRows := [], packet := [], packetCut := false }

/-- Script slots all absent (R172). -/
def Slots.reset : Slots := ⟨none, none, none⟩

/-- Script Memory after pin reset (R172). -/
def ScriptMemory.reset : ScriptMemory :=
  { steps := Vector.replicate 256 ⟨false, .finish⟩, slotsA := Slots.reset, slotsB := Slots.reset }

/-- The Command Port after pin reset, before the straps are sampled again (R193). -/
def Port.reset (straps : Straps) : Port :=
  { reply := none, replyRead := true, linkErrors := 0, flags := 0, enables := 0, startUpCloses := none,
    straps := straps, sdo := .undriven }

/-- The machine right after pin reset: every block in the state its chapter gives for pin reset, RESETN still low
(R189, assumption 1). -/
def State.reset : State :=
  { pending := [], now := 0, inReset := true, shortPulses := 0, hinge := Hinge.reset,
    posture := PostureUnit.reset false, table := Table.reset, frame := FrameStore.reset 0,
    comp := Composition.reset, panelA := PanelUnit.reset false, panelB := PanelUnit.reset false,
    lingerTime := 2000, scripts := ScriptMemory.reset, port := Port.reset ⟨false, false, false⟩ }

end Sys2Proof.Machine
end

