-- ==== Sys2Proof/Machine/Flags.lean ====
section
/-! DEFINITION. The flag computations: notification flags, enables and ALERT (R182 to R187), the link error report (R178). -/

namespace Sys2Proof.Machine

/-- The ten notification flags (R182). -/
inductive Flag where
  | posture | angleFault | calDone | shown | handover | reflow | layerOverflow | frameLoss | panelA | panelB
deriving DecidableEq, Repr

/-- A flag's bit in the flag sets (table of R182). -/
def Flag.bit : Flag → Nat
  | .posture => 0 | .angleFault => 1 | .calDone => 2 | .shown => 3 | .handover => 4
  | .reflow => 5 | .layerOverflow => 6 | .frameLoss => 7 | .panelA => 8 | .panelB => 9

/-- The set that holds one flag. -/
def Flag.mask (f : Flag) : BitVec 10 := 1#10 <<< f.bit

/-- The PANEL flag of a panel (R151). -/
def panelFlag : Panel → Flag
  | .a => .panelA
  | .b => .panelB

/-- A block sets a flag, whatever its enable (R183). -/
def State.raise (f : Flag) (s : State) : State :=
  { s with port := { s.port with flags := s.port.flags ||| f.mask } }

/-- Sets the flag when the event calls for it. -/
def State.raiseIf (b : Bool) (f : Flag) (s : State) : State :=
  if b then s.raise f else s

/-- Whether a flag is set. -/
def State.flagged (s : State) (f : Flag) : Bool := s.port.flags.getLsbD f.bit

/-- ALERT is asserted while at least one flag is both set and enabled (R187). -/
def Port.alert (p : Port) : Bool := p.flags &&& p.enables ≠ 0

/-- A flag-set argument with no bit above 9 set; others are refused (R185, R186). -/
def flagSet (m : Half) : Option (BitVec 10) :=
  if m.toNat < 1024 then some (m.setWidth 10) else none

/-- Each enable selected by the mask takes its bit of the value (R185). -/
def enablesAfter (enables value mask : BitVec 10) : BitVec 10 :=
  (enables &&& ~~~mask) ||| (value &&& mask)

/-- Each flag selected by the mask is cleared (R186). -/
def flagsAfterClear (flags mask : BitVec 10) : BitVec 10 :=
  flags &&& ~~~mask

/-- A link error's bit in the report (R179). -/
def LinkError.bit : LinkError → Nat
  | .framing => 0 | .check => 1 | .length => 2 | .unknown => 3 | .unread => 4

/-- The set that holds one link error. -/
def LinkError.mask (e : LinkError) : BitVec 5 := 1#5 <<< e.bit

/-- A link error joins the report; one already present stays present (R178). -/
def Port.addLinkError (e : LinkError) (p : Port) : Port :=
  { p with linkErrors := p.linkErrors ||| e.mask }

end Sys2Proof.Machine
end

