-- ==== Sys2Proof/Machine/Ops.lean ====
section
/-! DEFINITION. The shared operations: saturating counters, the clock, output timing, the reset gate, the start-up
window, the held reply, access to a panel's parts, and the frame banks. -/

namespace Sys2Proof.Machine

/-! ## Counters and clock -/

/-- A 16-bit counter counts and holds at 65535 (00_scope, Conventions: Counters). -/
def Count.bump (c : Count) : Count := if c = 0xFFFF#16 then c else c + 1

/-- A counter counts `n` events one after the other. -/
def Count.bumpBy (n : Nat) (c : Count) : Count := Count.bump^[n] c

/-- The event due at `due` is taken, so the clock stands at `due` or later (assumption 2). -/
def State.reach (due : Nat) (s : State) : State := { s with now := max s.now due }

/-- Microseconds of a time in milliseconds. -/
def ms (n : Nat) : Nat := n * 1000

/-- Length of an output period in microseconds (R69). -/
def FrameRate.period : FrameRate → Nat
  | .hz60 => 16667
  | .hz90 => 11111
  | .hz120 => 8333

/-- Length of the blanking interval in microseconds (R69). -/
def blanking : Nat := 1000

/-- Length of the active interval in microseconds (R69). -/
def FrameRate.active (r : FrameRate) : Nat := r.period - blanking

/-- Native rows of a panel's frame (R123). -/
def panelRows : Nat := 1680

/-- The next row of the running frame to begin: row r begins r × T / 1680 after the output frame start (R123), and a
row that has begun before now counts as sent (assumption 18). From the last row's beginning on it is 1680: none is left. -/
def State.nextRow (s : State) : Nat :=
  min panelRows (((s.now - s.frame.periodStart) * panelRows + (s.frame.rate.active - 1)) / s.frame.rate.active)

/-- The native row that the links of the panels send at this moment: row r from r × T / 1680 until (r + 1) × T / 1680 after
the output frame start; none in blanking (R123). -/
def State.sentRow (s : State) : Option Nat :=
  let elapsed := s.now - s.frame.periodStart
  if elapsed < s.frame.rate.active then some (elapsed * panelRows / s.frame.rate.active) else none

/-! ## Gates -/

/-- An event that reaches a block: the block is held in its reset state while RESETN is low (R189). -/
def State.onEvent (s : State) (work : State → State) : Result :=
  .next (if s.inReset then s else work s)

/-- The reply of a good command becomes the held reply, not read; UNREAD joins the report when the earlier reply had
not been read whole (R176). The COMMAND that it answers drove SDO low throughout (R173). -/
def Port.hold (r : Reply) (p : Port) : Port :=
  { p with
    reply := some r
    replyRead := false
    linkErrors := if p.reply.isSome && !p.replyRead then p.linkErrors ||| LinkError.unread.mask else p.linkErrors
    sdo := .low }

/-- Makes the reply the held reply (R176). -/
def State.hold (r : Reply) (s : State) : State := { s with port := s.port.hold r }

/-- A transaction drove SDO low throughout and left nothing else: a COMMAND (R173) or one ignored whole (R189, R195). -/
def State.droveLow (s : State) : State := { s with port := { s.port with sdo := .low } }

/-- Transactions are taken while RESETN is high and the start-up window is closed (R189). -/
def State.portOpen (s : State) : Bool := !s.inReset && s.port.startUpCloses.isNone

/-- A good COMMAND packet is taken: the owning block judges it, makes its change and forms its reply, which becomes the
held reply (R176). While RESETN is low or the start-up window is open it is ignored whole, SDO low (R189, R195). -/
def State.onCommand (s : State) (work : State → State × Reply) : Result :=
  .next (if s.portOpen then (let done := work s; done.1.hold done.2) else s.droveLow)

/-- Reply with no data. -/
def Reply.bare (st : Status) : Reply := ⟨st, []⟩

/-- A command refused: nothing changes and the data is empty (R179). -/
def refuse (st : Status) (s : State) : State × Reply := (s, Reply.bare st)

/-- A command that answers DONE with the given data. -/
def done (s : State) (data : List Byte) : State × Reply := (s, ⟨.done, data⟩)

/-! ## A panel's parts -/

/-- The other panel (00_scope, Conventions: Names). -/
def otherPanel : Panel → Panel
  | .a => .b
  | .b => .a

/-- Panel Controller X (chapter 7). -/
def State.panel (s : State) : Panel → PanelUnit
  | .a => s.panelA
  | .b => s.panelB

def State.setPanel (x : Panel) (u : PanelUnit) (s : State) : State :=
  match x with
  | .a => { s with panelA := u }
  | .b => { s with panelB := u }

/-- The slot table's entries of panel X (R155). -/
def ScriptMemory.slots (m : ScriptMemory) : Panel → Slots
  | .a => m.slotsA
  | .b => m.slotsB

/-- One entry of the slot table (R155). -/
def Slots.get (t : Slots) : ScriptSlot → Option StepIndex
  | .wake => t.wake
  | .sleep => t.sleep
  | .check => t.check

def Slots.set (slot : ScriptSlot) (i : Option StepIndex) (t : Slots) : Slots :=
  match slot with
  | .wake => { t with wake := i }
  | .sleep => { t with sleep := i }
  | .check => { t with check := i }

def ScriptMemory.setSlot (x : Panel) (slot : ScriptSlot) (i : Option StepIndex) (m : ScriptMemory) : ScriptMemory :=
  match x with
  | .a => { m with slotsA := m.slotsA.set slot i }
  | .b => { m with slotsB := m.slotsB.set slot i }

/-- The stacks of panel X (chapter 6). -/
def Composition.stackOf (c : Composition) : Panel → PanelStack
  | .a => c.stackA
  | .b => c.stackB

/-- The Posture Unit's demand state for panel X (chapter 2). -/
def PostureUnit.need (u : PostureUnit) : Panel → PanelNeed
  | .a => u.needA
  | .b => u.needB

def PostureUnit.setNeed (x : Panel) (n : PanelNeed) (u : PostureUnit) : PostureUnit :=
  match x with
  | .a => { u with needA := n }
  | .b => { u with needB := n }

/-- A script run is in flight on either Script Engine (R156, R157). -/
def State.runInFlight (s : State) : Bool := s.panelA.run.isSome || s.panelB.run.isSome

/-! ## Postures and zones -/

/-- A posture's number, which is its zone (2.1). -/
def Posture.number : Posture → Fin 6
  | .shut => 0 | .peek => 1 | .book => 2 | .flat => 3 | .tent => 4 | .backfold => 5

/-- The posture of a zone number; none above 5. -/
def Posture.ofNumber : Nat → Option Posture
  | 0 => some .shut | 1 => some .peek | 2 => some .book | 3 => some .flat | 4 => some .tent | 5 => some .backfold
  | _ => none

/-- The profile of a posture (R37). -/
def PostureUnit.profile (u : PostureUnit) (p : Posture) : Profile := u.profiles[p.number]

/-! ## Frame banks -/

/-- Removes the black pixels at a row's end. -/
def trimBlack : List Colour → List Colour
  | [] => []
  | c :: cs =>
    match trimBlack cs with
    | [] => if c = Colour.black then [] else [c]
    | d :: ds => c :: d :: ds

/-- The listed pixels of a row of the bank. -/
def Bank.row (b : Bank) (r : Nat) : List Colour :=
  match b with
  | [] => []
  | (k, px) :: rest => if k = r then px else Bank.row rest r

/-- One pixel of the bank; a pixel not listed is black (4.1: the blank frame). -/
def Bank.pixel (b : Bank) (col row : Nat) : Colour := (Bank.row b row).getD col Colour.black

/-- Row `r` of the bank becomes `px`, the form of the bank kept. -/
def Bank.setRow (r : Nat) (px : List Colour) : Bank → Bank
  | [] => if px = [] then [] else [(r, px)]
  | (k, q) :: rest =>
    if k < r then (k, q) :: Bank.setRow r px rest
    else if k = r then (if px = [] then rest else (r, px) :: rest)
    else if px = [] then (k, q) :: rest
    else (r, px) :: (k, q) :: rest

/-- The row that a line of `count` pixels leaves: its first 2400 pixels from column 0, and beyond a short line what the
row held (R71). -/
def lineOver (count : Nat) (pixels old : List Colour) : List Colour :=
  let n := min count 2400
  trimBlack ((List.range (max n old.length)).map fun c =>
    if c < n then pixels.getD c Colour.black else old.getD c Colour.black)

/-- A line is stored as row `r` of the bank (R71). -/
def Bank.storeLine (r count : Nat) (pixels : List Colour) (b : Bank) : Bank :=
  Bank.setRow r (lineOver count pixels (Bank.row b r)) b

/-- The canonical form of a bank: rows strictly rising, each with pixels and none black at its end. -/
def Bank.wf (b : Bank) : Bool :=
  b.all (fun e => e.2 ≠ [] && trimBlack e.2 = e.2) && (b.zip b.tail).all fun p => p.1.1 < p.2.1

end Sys2Proof.Machine
end

