-- ==== Sys2Proof/Machine/Operands.lean ====
section
/-! DEFINITION. Operand forms: what the bytes of each field type name (R179, R180), the six field groups of an entry
(R51), the 14 bytes of a script step, and the bytes of reply fields. -/

namespace Sys2Proof.Machine

/-! ## Bytes of numbers (R179: least significant byte first) -/

/-- A one-byte number. -/
def byte1 (n : Nat) : List Byte := [BitVec.ofNat 8 n]

/-- A two-byte number. -/
def byte2 (n : Nat) : List Byte := [BitVec.ofNat 8 n, BitVec.ofNat 8 (n / 256)]

/-- A four-byte number. -/
def byte4 (n : Nat) : List Byte :=
  [BitVec.ofNat 8 n, BitVec.ofNat 8 (n / 256), BitVec.ofNat 8 (n / 65536), BitVec.ofNat 8 (n / 16777216)]

/-- Yes or no, present or absent, set or clear, true or false. -/
def byteOfBool (b : Bool) : List Byte := [if b then 1#8 else 0#8]

/-- An optional part: a present byte, then the part's values at full width, sent as zero when it is absent. -/
def optional {α : Type} (width : Nat) (enc : α → List Byte) : Option α → List Byte
  | some v => 1#8 :: enc v
  | none => 0#8 :: List.replicate width 0#8

/-- A list of varying length: a count byte, then the members. -/
def counted {α : Type} (enc : α → List Byte) (l : List α) : List Byte :=
  byte1 l.length ++ l.flatMap enc

/-- The two-byte number of two bytes, the first the less significant. -/
def half (lo hi : Byte) : Half := hi ++ lo

/-! ## Clamped settings -/

/-- A value below the range takes the lowest value, one above it the highest (R21, R34, R139). -/
def clamp (lo hi n : Nat) : Nat := if n < lo then lo else if hi < n then hi else n

/-! ## Field values of commands -/

def panelOfByte (b : Byte) : Option Panel :=
  match b.toNat with
  | 0 => some .a
  | 1 => some .b
  | _ => none

def boolOfByte (b : Byte) : Option Bool :=
  match b.toNat with
  | 0 => some false
  | 1 => some true
  | _ => none

/-- A posture number of a command: 0..5 (R36, R38, R39). -/
def postureOfByte (b : Byte) : Option Posture := Posture.ofNumber b.toNat

def demandOfByte (b : Byte) : Option Demand :=
  match b.toNat with
  | 0 => some .on
  | 1 => some .off
  | 2 => some .lead
  | 3 => some .trail
  | _ => none

def fitOfByte (b : Byte) : Option FitMode :=
  match b.toNat with
  | 0 => some .crop
  | 1 => some .halve
  | 2 => some .hide
  | _ => none

/-- The four views that ENTRY READ names (R65). -/
inductive ViewName where
  | draft | staged | capture | shown
deriving DecidableEq, Repr

def viewOfByte (b : Byte) : Option ViewName :=
  match b.toNat with
  | 0 => some .draft
  | 1 => some .staged
  | 2 => some .capture
  | 3 => some .shown
  | _ => none

def slotOfByte (b : Byte) : Option ScriptSlot :=
  match b.toNat with
  | 0 => some .wake
  | 1 => some .sleep
  | 2 => some .check
  | _ => none

/-- A frame rate byte holds 60, 90 or 120 (R70, R179). -/
def rateOfByte (b : Byte) : Option FrameRate :=
  match b.toNat with
  | 60 => some .hz60
  | 90 => some .hz90
  | 120 => some .hz120
  | _ => none

/-- A handle 0..31. -/
def handleOfByte (b : Byte) : Option Handle :=
  if h : b.toNat < 32 then some ⟨b.toNat, h⟩ else none

/-- The index of Script Memory that a byte holds; every byte holds one. -/
def indexOfByte (b : Byte) : StepIndex := b.toFin

/-- The profile that PROFILE WRITE carries, when every field names a value (R38). -/
def profileOf (f : RawProfile) : Option Profile := do
  let demandA ← demandOfByte f.demandA
  let demandB ← demandOfByte f.demandB
  let turnedA ← boolOfByte f.rotationA
  let turnedB ← boolOfByte f.rotationB
  let span ← boolOfByte f.span
  return ⟨demandA, demandB, turnedA, turnedB, span, ⟨f.red, f.green, f.blue⟩⟩

/-- The zone table that ZONES WRITE carries, when no value exceeds 3600 and none is smaller than the one before it (R26). -/
def zonesOf (b1 b2 b3 b4 b5 : Half) : Option Zones :=
  let z : Zones := ⟨b1.toNat, b2.toNat, b3.toNat, b4.toNat, b5.toNat⟩
  if z.b1 ≤ z.b2 ∧ z.b2 ≤ z.b3 ∧ z.b3 ≤ z.b4 ∧ z.b4 ≤ z.b5 ∧ z.b5 ≤ 3600 then some z else none

/-! ## The field groups of an entry (R51) -/

/-- SOURCE: each value in its range, and the rectangle inside the canvas. -/
def sourceGroup (f : RawEntry) : Option Rect :=
  let r : Rect := ⟨f.sx.toNat, f.sy.toNat, f.sw.toNat, f.sh.toNat⟩
  if r.x < 2400 ∧ r.y < 1680 ∧ 1 ≤ r.w ∧ r.w ≤ 2400 ∧ 1 ≤ r.h ∧ r.h ≤ 1680 ∧ r.x + r.w ≤ 2400 ∧ r.y + r.h ≤ 1680
  then some r else none

/-- HOME: the panel is A or B, the origin on the panel. -/
def homeGroup (f : RawEntry) : Option (Panel × Point) := do
  let p ← panelOfByte f.home
  if f.hx.toNat < 1200 ∧ f.hy.toNat < 1680 then return (p, ⟨f.hx.toNat, f.hy.toNat⟩) else none

/-- An optional origin: absent, or present with both values in range; values sent with absent are not judged or kept. -/
def originGroup (present : Byte) (x y : Half) (width : Nat) : Option (Option Point) := do
  let p ← boolOfByte present
  if !p then return none
  else if x.toNat < width ∧ y.toNat < 1680 then return some ⟨x.toNat, y.toNat⟩ else none

/-- GUEST. -/
def guestGroup (f : RawEntry) : Option (Option Point) := originGroup f.guestPresent f.gx f.gy 1200

/-- SPAN. -/
def spanGroup (f : RawEntry) : Option (Option Point) := originGroup f.spanPresent f.px f.py 2400

/-- STYLE: priority 0..7, a fit mode, and a visibility set that names nothing outside the six postures. -/
def styleGroup (f : RawEntry) : Option (Fin 8 × FitMode × BitVec 6) := do
  let fit ← fitOfByte f.fit
  if h : f.priority.toNat < 8 then
    if f.visibility.toNat < 64 then return (⟨f.priority.toNat, h⟩, fit, f.visibility.setWidth 6) else none
  else none

/-- The entry that ENTRY BIND carries, when all six groups are valid (R56); TAG is always valid. -/
def entryOf (f : RawEntry) : Option Entry := do
  let source ← sourceGroup f
  let home ← homeGroup f
  let guest ← guestGroup f
  let span ← spanGroup f
  let style ← styleGroup f
  return { tag := f.tag, source := source, home := home.1, homeAt := home.2, guestAt := guest, spanAt := span,
           priority := style.1, fit := style.2.1, visibility := style.2.2 }

/-- The checks of R51 on an entry already in a view. -/
def Entry.valid (e : Entry) : Bool :=
  e.source.x < 2400 && e.source.y < 1680 && 1 ≤ e.source.w && e.source.w ≤ 2400 && 1 ≤ e.source.h &&
  e.source.h ≤ 1680 && e.source.x + e.source.w ≤ 2400 && e.source.y + e.source.h ≤ 1680 &&
  e.homeAt.x < 1200 && e.homeAt.y < 1680 &&
  (match e.guestAt with | none => true | some p => p.x < 1200 && p.y < 1680) &&
  (match e.spanAt with | none => true | some p => p.x < 2400 && p.y < 1680)

/-- A group's write: not selected keeps the entry, selected and valid changes it, selected and invalid refuses (R58). -/
def writeGroup {α : Type} (selected : Bool) (value : Option α) (put : α → Entry → Entry) (e : Entry) : Option Entry :=
  if selected then value.map (fun v => put v e) else some e

/-- ENTRY SET's write of the selected groups, bits 0..5 for SOURCE, HOME, GUEST, SPAN, STYLE and TAG; a selection byte
with bit 6 or 7 set is invalid (R58, R59, R179). -/
def setGroups (f : RawEntry) (selection : Byte) (e : Entry) : Option Entry := do
  if 64 ≤ selection.toNat then none
  let e ← writeGroup (selection.getLsbD 0) (sourceGroup f) (fun r e => { e with source := r }) e
  let e ← writeGroup (selection.getLsbD 1) (homeGroup f) (fun h e => { e with home := h.1, homeAt := h.2 }) e
  let e ← writeGroup (selection.getLsbD 2) (guestGroup f) (fun g e => { e with guestAt := g }) e
  let e ← writeGroup (selection.getLsbD 3) (spanGroup f) (fun p e => { e with spanAt := p }) e
  let e ← writeGroup (selection.getLsbD 4) (styleGroup f)
    (fun t e => { e with priority := t.1, fit := t.2.1, visibility := t.2.2 }) e
  writeGroup (selection.getLsbD 5) (some f.tag) (fun t e => { e with tag := t }) e

/-! ## Script steps (R154, R179) -/

/-- Byte `i` of a raw step. -/
def rawByte (r : RawStep) (i : Fin 14) : Byte := r[i]

/-- The byte count, code and (mask, value) pairs of READ and POLL: n 1..4, masks in bytes 3..6, values in bytes 7..10. -/
def stepPairs (r : RawStep) : Option (List (Byte × Byte)) :=
  let n := (rawByte r 2).toNat
  if 1 ≤ n ∧ n ≤ 4 then
    some (([(rawByte r 3, rawByte r 7), (rawByte r 4, rawByte r 8), (rawByte r 5, rawByte r 9), (rawByte r 6, rawByte r 10)]).take n)
  else none

/-- The fields of a step of the given kind number (R179); none when a field is outside its range (R154). -/
def stepBody (r : RawStep) (kind : Nat) : Option StepBody :=
  match kind with
  | 0 =>
    let n := (rawByte r 2).toNat
    if n ≤ 8 then
      some (.send (rawByte r 1) (([rawByte r 3, rawByte r 4, rawByte r 5, rawByte r 6, rawByte r 7, rawByte r 8, rawByte r 9, rawByte r 10]).take n))
    else none
  | 1 => (stepPairs r).map fun ps => .read (rawByte r 1) ps
  | 2 =>
    let interval := (rawByte r 11).toNat
    let timeout := (half (rawByte r 12) (rawByte r 13)).toNat
    if 1 ≤ interval ∧ 1 ≤ timeout ∧ timeout ≤ 2000 then
      (stepPairs r).map fun ps => .poll (rawByte r 1) ps interval timeout
    else none
  | 3 =>
    let d := (half (rawByte r 1) (rawByte r 2)).toNat
    if 1 ≤ d ∧ d ≤ 2000 then some (.wait d) else none
  | 4 =>
    match (rawByte r 1).toNat, (rawByte r 2).toNat with
    | 0, 0 => some (.line .reset true)
    | 0, 1 => some (.line .reset false)
    | 1, 0 => some (.line .power true)
    | 1, 1 => some (.line .power false)
    | _, _ => none
  | 5 => some (.goto (indexOfByte (rawByte r 1)))
  | 6 => some .finish
  | _ => none

/-- The step that 14 bytes hold: the kind in bits 0..2 of byte 0, bits 3..6 at 0, the tolerate flag in bit 7 (R179). -/
def stepOf (r : RawStep) : Option Step :=
  let head := (rawByte r 0).toNat
  if head / 8 % 16 = 0 then (stepBody r (head % 8)).map fun b => ⟨128 ≤ head, b⟩ else none

/-- A step's kind. -/
def StepBody.kind : StepBody → StepKind
  | .send _ _ => .send
  | .read _ _ => .read
  | .poll _ _ _ _ => .poll
  | .wait _ => .wait
  | .line _ _ => .line
  | .goto _ => .goto
  | .finish => .finish

/-- Step kinds in the order of R154. -/
def StepKind.number : StepKind → Nat
  | .send => 0 | .read => 1 | .poll => 2 | .wait => 3 | .line => 4 | .goto => 5 | .finish => 6

/-- A list of bytes at a full width, unused places zero. -/
def padBytes (width : Nat) (l : List Byte) : List Byte := l.take width ++ List.replicate (width - l.length) 0#8

/-- Code, n, 4 mask bytes and 4 value bytes of READ and POLL. -/
def pairBytes (code : Byte) (ps : List (Byte × Byte)) : List Byte :=
  code :: byte1 ps.length ++ padBytes 4 (ps.map Prod.fst) ++ padBytes 4 (ps.map Prod.snd)

/-- Bytes 1..13 of a step; bytes not used by the kind are sent as zero (R179). -/
def StepBody.bytes : StepBody → List Byte
  | .send code args => padBytes 13 (code :: byte1 args.length ++ padBytes 8 args)
  | .read code ps => padBytes 13 (pairBytes code ps)
  | .poll code ps interval timeout => padBytes 13 (pairBytes code ps ++ byte1 interval ++ byte2 timeout)
  | .wait d => padBytes 13 (byte2 d)
  | .line which asserted =>
    padBytes 13 (byte1 (match which with | .reset => 0 | .power => 1) ++ byte1 (if asserted then 0 else 1))
  | .goto target => padBytes 13 (byte1 target)
  | .finish => padBytes 13 []

/-- The 14 bytes of a step (R179). -/
def Step.bytes (st : Step) : List Byte :=
  byte1 (st.body.kind.number + (if st.tolerate then 128 else 0)) ++ st.body.bytes

/-! ## Reply fields (R179) -/

def Status.code : Status → Byte
  | .done => 0x01 | .started => 0x02 | .busy => 0x03 | .range => 0x04 | .state => 0x05 | .exhausted => 0x06
  | .absent => 0x07 | .none => 0x08

/-- The number of a posture, NONE 6. -/
def postureByte : Option Posture → List Byte
  | some p => byte1 p.number
  | none => byte1 6

def panelByte : Panel → List Byte
  | .a => byte1 0
  | .b => byte1 1

def demandByte : Demand → List Byte
  | .on => byte1 0
  | .off => byte1 1
  | .lead => byte1 2
  | .trail => byte1 3

/-- A resolved demand: ON 0, OFF 1 (R179). -/
def onOffByte (on : Bool) : List Byte := byte1 (if on then 0 else 1)

/-- A line or pin level: asserted 0, released 1, in the order the values are listed (R179, last row; assumption 12). -/
def assertedByte (asserted : Bool) : List Byte := byte1 (if asserted then 0 else 1)

/-- Rotation: 0 for 0, 1 for 180. -/
def rotationByte (turned : Bool) : List Byte := byteOfBool turned

def colourBytes (c : Colour) : List Byte := [c.red, c.green, c.blue]

def countBytes (c : Count) : List Byte := byte2 c.toNat

def genBytes (g : Gen) : List Byte := byte4 g.toNat

def handleByte (h : Handle) : List Byte := byte1 h

def pointBytes (p : Point) : List Byte := byte2 p.x ++ byte2 p.y

def rectBytes (r : Rect) : List Byte := byte2 r.x ++ byte2 r.y ++ byte2 r.w ++ byte2 r.h

/-- A signed pivot delta: two bytes, two's complement. -/
def deltaBytes (d : Int) : List Byte := byte2 (BitVec.ofInt 16 d).toNat

def fitModeByte : FitMode → List Byte
  | .crop => byte1 0
  | .halve => byte1 1
  | .hide => byte1 2

def slotByte : ScriptSlot → List Byte
  | .wake => byte1 0
  | .sleep => byte1 1
  | .check => byte1 2

/-- Panel states in the order of R150 and R127. -/
def PanelState.number : PanelState → Nat
  | .dark => 0 | .waking => 1 | .live => 2 | .idle => 3 | .sleeping => 4 | .fault => 5

/-- Step errors in the order of R145. -/
def StepError.number : StepError → Nat
  | .noReply => 0 | .reported _ => 1 | .protocol => 2 | .mismatch => 3 | .pollTimeout => 4 | .runaway => 5

/-- The panel-reported error set, when the error is REPORTED (R145). -/
def StepError.reportedSet : StepError → Option (BitVec 4)
  | .reported e => some e
  | _ => none

end Sys2Proof.Machine
end

