-- ==== Sys2Proof/WellFormed.lean ====
section
/-! DEFINITION. Well-formed commands: operands that the part's pins and links can carry. A field that a command's own rule
refuses (R180) is well-formed: it reaches the rule. -/

namespace Sys2Proof

open Machine

/-- Checks on operands. A line lists no more pixels than it counts (R71); a COMMAND_LINK_ERROR is a transaction with a
link error (R174); a SCRIPT WRITE packet has room for at most 4 steps (R181); an invalid TRACK MODE names none of the three
modes (R35). -/
def wellFormed (i : Instr) : Bool :=
  match i with
  | .lineEnd count pixels => pixels.length ≤ count.toNat
  | .commandLinkError bytes => (linkErrorOf bytes).isSome
  | .scriptWrite _ steps => steps.length ≤ 4
  | .trackModeInvalidMode mode _ => 3 ≤ mode.toNat
  | .sampleIntervalExpiry | .sensorReply _ _ _ | .sensorReadTimeout _ | .sourceFrameStart | .sourceFrameEnd |
    .outputFrameStart | .frmreqPulseEnd | .outputFrameEnd | .panelLinkReply _ _ | .replyTimeout _ |
    .waitEnd _ | .pollReadDue _ | .pollTimeout _ | .attention _ | .lingerExpiry _ | .recoveryWindowClose _ |
    .replyRead _ | .startUpWindowClose | .pinReset _ | .resetnRelease _ | .identify | .softReset |
    .notifyRead | .notifyEnable _ _ | .notifyClear _ | .hingeConfig _ _ _ | .hingeRead | .zeroWrite _ _ |
    .zeroCapture | .zeroRead | .zonesWrite _ _ _ _ _ | .zonesRead | .postureConfig _ _ _ | .profileWrite _ _ |
    .profileRead _ | .trackModeTrack | .trackModeHold | .trackModeForce _ | .leadSet _ | .postureRead |
    .entryBind _ | .entrySet _ _ _ | .entryRetire _ | .tagRetire _ | .entryRead _ _ | .entryStatus _ |
    .tagFind _ | .tablePublish | .draftRevert | .placementRead _ | .reflowRead | .layersRead | .timingSet _ |
    .frameStatus | .scriptRead _ _ | .slotSet _ _ _ _ | .panelRestart _ | .panelStop _ | .panelCheck _ |
    .panelRead _ | .panelConfig _ | .attentionLineRelease _ => true

/-- The check as a proposition. -/
abbrev WellFormed (i : Instr) : Prop := wellFormed i = true

end Sys2Proof
end

