-- ==== Sys2Proof/Decode.lean ====
section
/-! DEFINITION. The command that a word of spec/opcode_table.json spells (the table gives no row any bits), and beyond it
the host port's own packets: the command that a COMMAND transaction spells and the transaction that a host command is sent
as (R173, R174, R179, R181). -/

namespace Sys2Proof

open Machine

/-- The command that a word spells by the table's bits: no row of the table has bits, so none. -/
def decodeTableWord (_nbits _w : Nat) : Option Instr := none

/-! ## Argument bytes to operands -/

/-- A command without arguments. -/
def noArgs (i : Instr) : List Byte → Option Instr
  | [] => some i
  | _ => none

/-- A command of one argument byte. -/
def oneByte (f : Byte → Instr) : List Byte → Option Instr
  | [a] => some (f a)
  | _ => none

/-- A command of two argument bytes. -/
def twoBytes (f : Byte → Byte → Instr) : List Byte → Option Instr
  | [a, b] => some (f a b)
  | _ => none

/-- A command of one two-byte number. -/
def oneHalf (f : Half → Instr) : List Byte → Option Instr
  | [a, b] => some (f (half a b))
  | _ => none

/-- A command of two two-byte numbers. -/
def twoHalves (f : Half → Half → Instr) : List Byte → Option Instr
  | [a, b, c, d] => some (f (half a b) (half c d))
  | _ => none

/-- A command of three two-byte numbers. -/
def threeHalves (f : Half → Half → Half → Instr) : List Byte → Option Instr
  | [a, b, c, d, e, g] => some (f (half a b) (half c d) (half e g))
  | _ => none

/-- The 28 bytes of entry fields (R56, R179). -/
def rawEntryOf : List Byte → Option RawEntry
  | [t0, t1, sx0, sx1, sy0, sy1, sw0, sw1, sh0, sh1, home, hx0, hx1, hy0, hy1, gp, gx0, gx1, gy0, gy1,
      sp, px0, px1, py0, py1, prio, fit, vis] =>
    some { tag := half t0 t1, sx := half sx0 sx1, sy := half sy0 sy1, sw := half sw0 sw1, sh := half sh0 sh1,
           home := home, hx := half hx0 hx1, hy := half hy0 hy1, guestPresent := gp, gx := half gx0 gx1,
           gy := half gy0 gy1, spanPresent := sp, px := half px0 px1, py := half py0 py1, priority := prio,
           fit := fit, visibility := vis }
  | _ => none

/-- ZONES WRITE: five two-byte numbers. -/
def zonesWriteOf : List Byte → Option Instr
  | [a0, a1, b0, b1, c0, c1, d0, d1, e0, e1] =>
    some (.zonesWrite (half a0 a1) (half b0 b1) (half c0 c1) (half d0 d1) (half e0 e1))
  | _ => none

/-- PROFILE WRITE: a posture number and the eight bytes of a profile. -/
def profileWriteOf : List Byte → Option Instr
  | [p, da, db, ra, rb, sp, r, g, b] => some (.profileWrite p ⟨da, db, ra, rb, sp, r, g, b⟩)
  | _ => none

/-- TRACK MODE: the mode byte names the row, and the posture byte is used for FORCE alone (R179). -/
def trackModeOf : List Byte → Option Instr
  | [mode, posture] =>
    match mode.toNat with
    | 0 => some .trackModeTrack
    | 1 => some .trackModeHold
    | 2 => some (.trackModeForce posture)
    | _ => some (.trackModeInvalidMode mode posture)
  | _ => none

/-- ENTRY SET: the handle, the selection byte and the 28 bytes of entry fields. -/
def entrySetOf : List Byte → Option Instr
  | h :: sel :: fields => (rawEntryOf fields).map fun f => .entrySet h sel f
  | _ => none

/-- `n` steps of 14 bytes each. -/
def rawSteps : Nat → List Byte → List RawStep
  | 0, _ => []
  | n + 1, l => Vector.ofFn (fun i : Fin 14 => l.getD i 0) :: rawSteps n (l.drop 14)

/-- SCRIPT WRITE: the start index and the steps. -/
def scriptWriteOf : List Byte → Option Instr
  | start :: rest => if rest.length % 14 = 0 then some (.scriptWrite start (rawSteps (rest.length / 14) rest)) else none
  | _ => none

/-- SLOT SET: panel, slot, present byte, index. -/
def slotSetOf : List Byte → Option Instr
  | [x, sl, p, i] => some (.slotSet x sl p i)
  | _ => none

/-- The command of an opcode with its arguments, by the catalogue (R181). -/
def commandOf (opcode : Byte) (args : List Byte) : Option Instr :=
  match opcode.toNat with
  | 0x01 => noArgs .identify args
  | 0x02 => noArgs .softReset args
  | 0x03 => noArgs .notifyRead args
  | 0x04 => twoHalves .notifyEnable args
  | 0x05 => oneHalf .notifyClear args
  | 0x10 => threeHalves .hingeConfig args
  | 0x11 => noArgs .hingeRead args
  | 0x12 => twoHalves .zeroWrite args
  | 0x13 => noArgs .zeroCapture args
  | 0x14 => noArgs .zeroRead args
  | 0x20 => zonesWriteOf args
  | 0x21 => noArgs .zonesRead args
  | 0x22 => threeHalves .postureConfig args
  | 0x23 => profileWriteOf args
  | 0x24 => oneByte .profileRead args
  | 0x25 => trackModeOf args
  | 0x26 => oneByte .leadSet args
  | 0x27 => noArgs .postureRead args
  | 0x30 => (rawEntryOf args).map .entryBind
  | 0x31 => entrySetOf args
  | 0x32 => oneByte .entryRetire args
  | 0x33 => oneHalf .tagRetire args
  | 0x34 => twoBytes .entryRead args
  | 0x35 => oneByte .entryStatus args
  | 0x36 => oneHalf .tagFind args
  | 0x37 => noArgs .tablePublish args
  | 0x38 => noArgs .draftRevert args
  | 0x40 => oneByte .placementRead args
  | 0x41 => noArgs .reflowRead args
  | 0x42 => noArgs .layersRead args
  | 0x43 => oneByte .timingSet args
  | 0x44 => noArgs .frameStatus args
  | 0x50 => scriptWriteOf args
  | 0x51 => twoBytes .scriptRead args
  | 0x52 => slotSetOf args
  | 0x53 => oneByte .panelRestart args
  | 0x54 => oneByte .panelStop args
  | 0x55 => oneByte .panelCheck args
  | 0x56 => oneByte .panelRead args
  | 0x57 => oneHalf .panelConfig args
  | _ => none

/-- The row that a transaction of whole bytes is (R173, R174): kind byte 0xA5 makes it a REPLY READ that clocks out the
bytes after it; otherwise it is a good COMMAND or a COMMAND with a link error. -/
def decodeTransaction (bytes : List Byte) : Option Instr :=
  if bytes.head? = some 0xA5#8 then some (.replyRead (bytes.length - 1))
  else match judge bytes with
    | .bad _ => some (.commandLinkError bytes)
    | .good opcode args => commandOf opcode args

/-! ## Operands to argument bytes -/

/-- The two bytes of a number, the less significant first. -/
def halfBytes (h : Half) : List Byte := [h.setWidth 8, (h >>> 8).setWidth 8]

def rawEntryBytes (f : RawEntry) : List Byte :=
  halfBytes f.tag ++ halfBytes f.sx ++ halfBytes f.sy ++ halfBytes f.sw ++ halfBytes f.sh ++ [f.home] ++
  halfBytes f.hx ++ halfBytes f.hy ++ [f.guestPresent] ++ halfBytes f.gx ++ halfBytes f.gy ++ [f.spanPresent] ++
  halfBytes f.px ++ halfBytes f.py ++ [f.priority, f.fit, f.visibility]

def rawProfileBytes (f : RawProfile) : List Byte :=
  [f.demandA, f.demandB, f.rotationA, f.rotationB, f.span, f.red, f.green, f.blue]

/-- The opcode and argument bytes that a host command is sent with (R179, R181); none for the rows that are no COMMAND. -/
def commandBytes (i : Instr) : Option (Byte × List Byte) :=
  match i with
  | .identify => some (0x01, [])
  | .softReset => some (0x02, [])
  | .notifyRead => some (0x03, [])
  | .notifyEnable value mask => some (0x04, halfBytes value ++ halfBytes mask)
  | .notifyClear mask => some (0x05, halfBytes mask)
  | .hingeConfig interval shift skewLimit => some (0x10, halfBytes interval ++ halfBytes shift ++ halfBytes skewLimit)
  | .hingeRead => some (0x11, [])
  | .zeroWrite zeroL zeroR => some (0x12, halfBytes zeroL ++ halfBytes zeroR)
  | .zeroCapture => some (0x13, [])
  | .zeroRead => some (0x14, [])
  | .zonesWrite b1 b2 b3 b4 b5 => some (0x20, halfBytes b1 ++ halfBytes b2 ++ halfBytes b3 ++ halfBytes b4 ++ halfBytes b5)
  | .zonesRead => some (0x21, [])
  | .postureConfig hysteresis dwell margin => some (0x22, halfBytes hysteresis ++ halfBytes dwell ++ halfBytes margin)
  | .profileWrite posture fields => some (0x23, posture :: rawProfileBytes fields)
  | .profileRead posture => some (0x24, [posture])
  | .trackModeTrack => some (0x25, [0, 0])
  | .trackModeHold => some (0x25, [1, 0])
  | .trackModeForce posture => some (0x25, [2, posture])
  | .leadSet panel => some (0x26, [panel])
  | .postureRead => some (0x27, [])
  | .entryBind fields => some (0x30, rawEntryBytes fields)
  | .entrySet handle selection fields => some (0x31, handle :: selection :: rawEntryBytes fields)
  | .entryRetire handle => some (0x32, [handle])
  | .tagRetire tag => some (0x33, halfBytes tag)
  | .entryRead handle view => some (0x34, [handle, view])
  | .entryStatus handle => some (0x35, [handle])
  | .tagFind tag => some (0x36, halfBytes tag)
  | .tablePublish => some (0x37, [])
  | .draftRevert => some (0x38, [])
  | .placementRead handle => some (0x40, [handle])
  | .reflowRead => some (0x41, [])
  | .layersRead => some (0x42, [])
  | .timingSet rate => some (0x43, [rate])
  | .frameStatus => some (0x44, [])
  | .scriptWrite start steps => some (0x50, start :: steps.flatMap Vector.toList)
  | .scriptRead start count => some (0x51, [start, count])
  | .slotSet panel slot present index => some (0x52, [panel, slot, present, index])
  | .panelRestart panel => some (0x53, [panel])
  | .panelStop panel => some (0x54, [panel])
  | .panelCheck panel => some (0x55, [panel])
  | .panelRead panel => some (0x56, [panel])
  | .panelConfig linger => some (0x57, halfBytes linger)
  | .trackModeInvalidMode mode posture => some (0x25, [mode, posture])
  | .sampleIntervalExpiry => none
  | .sensorReply _ _ _ => none
  | .sensorReadTimeout _ => none
  | .sourceFrameStart => none
  | .lineEnd _ _ => none
  | .sourceFrameEnd => none
  | .outputFrameStart => none
  | .frmreqPulseEnd => none
  | .outputFrameEnd => none
  | .panelLinkReply _ _ => none
  | .replyTimeout _ => none
  | .waitEnd _ => none
  | .pollReadDue _ => none
  | .pollTimeout _ => none
  | .attention _ => none
  | .lingerExpiry _ => none
  | .recoveryWindowClose _ => none
  | .commandLinkError _ => none
  | .replyRead _ => none
  | .startUpWindowClose => none
  | .pinReset _ => none
  | .resetnRelease _ => none
  | .attentionLineRelease _ => none

/-- The COMMAND transaction that a host command is sent as (R174, R179). -/
def encodeTransaction (i : Instr) : Option (List Byte) :=
  (commandBytes i).map fun c => commandPacket c.1 c.2

end Sys2Proof
end

