-- ==== Sys2Proof/Config.lean ====
section
/-! DEFINITION. What the spec leaves to the part: free values, which nothing in Lean can evaluate. -/

namespace Sys2Proof

/-- Whether a low pulse on RESETN of 2 µs or longer but shorter than 10 µs is taken as a pin reset.
R189 says such a pulse 'is either ignored or taken as a pin reset, whole in either case'; the n-th such pulse
is judged by the n-th value of this free choice (assumption 3). -/
opaque Config.shortPulseResets : Nat → Bool

/-- How long a command packet takes on a panel link, in microseconds, by its bytes.
R161 says that this time 'belongs to the signalling of the panel link and is given in the data sheet of the part'
(assumption 5). -/
opaque Config.linkPacketTime : List Byte → Nat

end Sys2Proof
end

