-- ==== Sys2Proof/Machine/Engine.lean ====
section
/-! DEFINITION. One Panel Controller with its Script Engine: panel states, scripts, completions, recovery and faults
(chapters 7 and 8). Everything here works on one panel's state, given what it reads of the rest of the part. -/

namespace Sys2Proof.Machine

/-- What a Panel Controller and its Script Engine read of the rest of the part: the clock, the next row of the running
frame, the linger time, Script Memory and the panel's slots. -/
structure PanelEnv where
  now : Nat
  nextRow : Nat
  lingerTime : Nat
  steps : Vector Step 256
  slots : Slots
deriving DecidableEq, Repr

/-- A run that is to start in an event: its slot, and whether it is a script completion that starts it (R148). -/
structure RunRequest where
  slot : ScriptSlot
  byCompletion : Bool
deriving DecidableEq, Repr

/-- A panel at work in one event: its state, whether its PANEL flag is to be set (R151), and a run that is to start. -/
structure PanelWork where
  unit : PanelUnit
  notify : Bool
  request : Option RunRequest
deriving DecidableEq, Repr

/-! ## Panel states and scanout -/

/-- A LIVE or IDLE panel receives a pixel stream (R123). -/
def PanelState.streams (st : PanelState) : Bool := st = .live || st = .idle

/-- An entry to LIVE, DARK or FAULT sets the PANEL flag (R151). -/
def PanelState.announced (st : PanelState) : Bool := st = .live || st = .dark || st = .fault

/-- What the rows of the running frame carry from now on (R124): nothing changes without a stream under way; between
LIVE and IDLE the rows not yet sent turn black or to the background; leaving both ends the stream. A stream that
begins does so at the next output frame start. -/
def rowsAfter (nextRow : Nat) (new : PanelState) (rows : List Segment) : List Segment :=
  match rows with
  | [] => []
  | seg :: _ =>
    if seg.content = .off then rows
    else match new with
      | .idle => ⟨nextRow, .black⟩ :: rows
      | .live => ⟨nextRow, .background⟩ :: rows
      | _ => ⟨nextRow, .off⟩ :: rows

/-- The panel enters a state. Leaving LIVE disables its layers (R125), leaving IDLE removes the linger timer (R137),
scanout follows at once (R124), and the PANEL flag is set by R151. -/
def PanelWork.enter (env : PanelEnv) (new : PanelState) (w : PanelWork) : PanelWork :=
  { w with
    unit := { w.unit with
      state := new
      layersEnabled := if w.unit.state = .live then false else w.unit.layersEnabled
      linger := if new = .idle then w.unit.linger else .absent
      frameRows := rowsAfter env.nextRow new w.unit.frameRows }
    notify := w.notify || new.announced }

/-- A run of the slot is to start in this event (R132). -/
def PanelWork.ask (slot : ScriptSlot) (w : PanelWork) : PanelWork := { w with request := some ⟨slot, false⟩ }

/-- WAKING is entered and a WAKE run starts (R133). -/
def PanelWork.wake (env : PanelEnv) (w : PanelWork) : PanelWork := (w.enter env .waking).ask .wake

/-- SLEEPING is entered, which removes the linger timer, and a SLEEP run starts (R137). -/
def PanelWork.putToSleep (env : PanelEnv) (w : PanelWork) : PanelWork := (w.enter env .sleeping).ask .sleep

/-! ## Faults -/

/-- A command packet of the run under way is still being sent (R161). -/
def PanelUnit.sending (now : Nat) (u : PanelUnit) : Bool :=
  match u.run with
  | some r => match r.phase with | .awaitReply packetEnds _ => now < packetEnds | _ => false
  | none => false

/-- An abort removes the run context, whatever its phase; a command packet that is still being sent is cut short (R171). -/
def PanelUnit.abort (now : Nat) (u : PanelUnit) : PanelUnit :=
  { u with run := none, packetCut := u.packetCut || u.sending now }

/-- The Panel Controller and its Script Engine after either reset, which aborts the run (R152, R153, R171, R172); the level
of the attention line and the model's record of the link's latest packet stand (assumption 17). -/
def PanelUnit.afterReset (now : Nat) (u : PanelUnit) : PanelUnit :=
  { PanelUnit.reset u.attentionLine with packet := u.packet, packetCut := (u.abort now).packetCut }

/-- Entry to FAULT (R144): the run is aborted, the reset line asserted and the power-enable line released, the timer
and the latch removed, the record written (R145), the entry counted and the PANEL flag set. -/
def PanelWork.fault (env : PanelEnv) (kind : FaultKind) (step : Option (ScriptSlot × StepIndex × StepKind))
    (error : Option StepError) (w : PanelWork) : PanelWork :=
  let left := w.unit.state
  let w := w.enter env .fault
  { w with unit := { w.unit.abort env.now with
      resetAsserted := true
      powerAsserted := false
      latched := false
      faultRecord := some ⟨kind, left, step, error⟩
      faultEntries := Count.bump w.unit.faultEntries } }

/-- A fault whose record names the failing step (R145). -/
def PanelWork.faultAt (env : PanelEnv) (kind : FaultKind) (f : StepFailure) (w : PanelWork) : PanelWork :=
  w.fault env kind (some (f.slot, f.index, f.kind)) (some f.error)

/-! ## Linger -/

/-- The linger expiry (R137): into SLEEPING when no run is in flight, else expired and held. -/
def PanelWork.lingerExpires (env : PanelEnv) (w : PanelWork) : PanelWork :=
  if w.unit.run.isSome then { w with unit := { w.unit with linger := .held } } else w.putToSleep env

/-- The linger timer starts with the linger time in force; a time of 0 expires at once (R137). -/
def PanelWork.startLinger (env : PanelEnv) (w : PanelWork) : PanelWork :=
  if env.lingerTime = 0 then w.lingerExpires env
  else { w with unit := { w.unit with linger := .running (env.now + ms env.lingerTime) } }

def PanelWork.removeLinger (w : PanelWork) : PanelWork := { w with unit := { w.unit with linger := .absent } }

/-- The linger timer as a pair leaves it in IDLE: removed when wanted, else started (R134 to R136). -/
def PanelWork.lingerFor (env : PanelEnv) (wanted : Bool) (w : PanelWork) : PanelWork :=
  if wanted then w.removeLinger else w.startLinger env

/-! ## Completions -/

/-- A CHECK run is to start when the slot is present; with the slot absent it would succeed at once (R141, R149). -/
def PanelWork.askCheck (env : PanelEnv) (w : PanelWork) : PanelWork :=
  if env.slots.check.isSome then w.ask .check else w

/-- The latch is cleared, and in LIVE or IDLE the attention is handled as one arriving now (R134, R141). -/
def PanelWork.serveLatched (env : PanelEnv) (w : PanelWork) : PanelWork :=
  let served := { w with unit := { w.unit with latched := false } }
  if w.unit.latched && w.unit.state.streams then served.askCheck env else served

/-- A WAKE run succeeds (R134). -/
def PanelWork.wakeSucceeds (env : PanelEnv) (w : PanelWork) : PanelWork :=
  (if w.unit.demandIn then w.enter env .live
   else (w.enter env .idle).lingerFor env w.unit.wantedIn).serveLatched env

/-- A SLEEP run succeeds (R138): DARK, and at once WAKING when wanted (R133). -/
def PanelWork.sleepSucceeds (env : PanelEnv) (w : PanelWork) : PanelWork :=
  let w := ({ w with unit := { w.unit with latched := false } }).enter env .dark
  if w.unit.wantedIn then w.wake env else w

/-- A CHECK run succeeds (R142): a held linger expiry puts the panel to sleep. -/
def PanelWork.checkSucceeds (env : PanelEnv) (w : PanelWork) : PanelWork :=
  if w.unit.linger = .held then w.putToSleep env else w

/-- Length of the recovery window in milliseconds (R142). -/
def recoverySpan : Nat := 10000

/-- The recovery is counted, in the window running or in one that opens now (R142). -/
def PanelUnit.countRecovery (now : Nat) (u : PanelUnit) : PanelUnit :=
  match u.recoveryWindow with
  | none => { u with recoveryWindow := some (now + ms recoverySpan), recoveryCount := 1 }
  | some _ => { u with recoveryCount := u.recoveryCount + 1 }

/-- A CHECK run fails (R142): the timer is removed, the recovery counted, and the panel woken again or, at the third,
faulted. -/
def PanelWork.checkFails (env : PanelEnv) (f : StepFailure) (w : PanelWork) : PanelWork :=
  let w := { w.removeLinger with unit := w.removeLinger.unit.countRecovery env.now }
  if 3 ≤ w.unit.recoveryCount then w.faultAt env .recoveryLimit f
  else ({ w with unit := { w.unit with recoveries := Count.bump w.unit.recoveries } }).wake env

/-- A run that a completion asks for (R148). -/
def PanelWork.askedByCompletion (w : PanelWork) : PanelWork :=
  { w with request := w.request.map fun q => { q with byCompletion := true } }

/-- The controller acts on a completion, a success or a failure, the run context removed first (R132, R166, R167). -/
def PanelWork.completed (env : PanelEnv) (slot : ScriptSlot) (failure : Option StepFailure) (w : PanelWork) : PanelWork :=
  let w := { w with unit := { w.unit with run := none } }
  PanelWork.askedByCompletion <| match slot, failure with
  | .wake, none => w.wakeSucceeds env
  | .sleep, none => w.sleepSucceeds env
  | .check, none => w.checkSucceeds env
  | .check, some f => w.checkFails env f
  | _, some f => w.faultAt env .script f

/-! ## Panel link packets -/

/-- A command packet on the panel link: kind 0x01, code, argument count, argument bytes, check (R161). -/
def linkPacket (code : Byte) (args : List Byte) : List Byte :=
  let covered := 0x01#8 :: code :: BitVec.ofNat 8 args.length :: args
  covered ++ [crc8 covered]

/-- A valid reply by its packet kind (R161, R162). -/
inductive LinkReply where
  | ack
  | data (bytes : List Byte)
  | report (errors : BitVec 4)
  | other
deriving DecidableEq, Repr

/-- The reply that the bytes before the check byte make (R161): a packet of no known form is of another kind. -/
def linkReplyOf : List Byte → LinkReply
  | [0x02#8] => .ack
  | 0x03#8 :: n :: bytes =>
    if n.toNat = bytes.length ∧ 1 ≤ bytes.length ∧ bytes.length ≤ 8 then .data bytes else .other
  | [0x04#8, e] => if e.toNat < 16 then .report (e.setWidth 4) else .other
  | _ => .other

/-- The valid reply that a packet is: its check byte, the last, is right (R161); a packet with no kind byte is none. -/
def validReply (packet : List Byte) : Option LinkReply :=
  if 2 ≤ packet.length ∧ packet.getLast? = some (crc8 packet.dropLast) then some (linkReplyOf packet.dropLast) else none

/-! ## The run -/

/-- Steps a run may execute (R168). -/
def maxSteps : Nat := 512

/-- The index a run goes on at after a step that names no next index of its own; none past index 255 (R160, R168). -/
def following (i : StepIndex) : Option StepIndex :=
  if h : i.val + 1 < 256 then some ⟨i.val + 1, h⟩ else none

/-- The kind of the step at an index of Script Memory. -/
def PanelEnv.kindAt (env : PanelEnv) (i : StepIndex) : StepKind := env.steps[i].body.kind

/-- The run fails with RUNAWAY, naming a step (R168). -/
def PanelWork.runaway (env : PanelEnv) (slot : ScriptSlot) (i : StepIndex) (w : PanelWork) : PanelWork :=
  w.completed env slot (some ⟨slot, i, env.kindAt i, .runaway⟩)

def PanelWork.setRun (r : Run) (w : PanelWork) : PanelWork := { w with unit := { w.unit with run := some r } }

/-- The command packet is sent from now on and its reply awaited, in a window that counts from the packet's end (R161). -/
def PanelWork.send (env : PanelEnv) (r : Run) (code : Byte) (args : List Byte) (w : PanelWork) : PanelWork :=
  { w with unit := { w.unit with
      run := some { r with phase := .awaitReply (env.now + Config.linkPacketTime (linkPacket code args)) false }
      packet := linkPacket code args
      packetCut := false } }

/-- A transaction whose step begins or whose read falls due: sent at once while the panel receives no stream, in LIVE
and IDLE waiting for the next output frame end (R169, R170). -/
def PanelWork.transact (env : PanelEnv) (r : Run) (code : Byte) (args : List Byte) (w : PanelWork) : PanelWork :=
  if w.unit.state.streams then w.setRun { r with phase := .waitStart } else w.send env r code args

/-- A LINE step drives its line (R166). -/
def PanelWork.driveLine (which : PanelLine) (asserted : Bool) (w : PanelWork) : PanelWork :=
  { w with unit := match which with
      | .reset => { w.unit with resetAsserted := asserted }
      | .power => { w.unit with powerAsserted := asserted } }

/-- The run begins the step at index `i` with `left` more steps allowed, and goes on through the steps that end at once
(R160, R166, R168) until one waits or the run completes. -/
def PanelWork.beginStep (env : PanelEnv) (slot : ScriptSlot) : Nat → StepIndex → PanelWork → PanelWork
  | 0, i, w => w.runaway env slot i
  | left + 1, i, w =>
    let r : Run := ⟨slot, i, maxSteps - left, .waitStart, env.now, none⟩
    match env.steps[i].body with
    | .send code args => w.transact env r code args
    | .read code _ => w.transact env r code []
    | .poll code _ _ _ => w.transact env r code []
    | .wait d => w.setRun { r with phase := .waiting (env.now + ms d) }
    | .line which asserted =>
      match following i with
      | none => (w.driveLine which asserted).runaway env slot i
      | some j => PanelWork.beginStep env slot left j (w.driveLine which asserted)
    | .goto target => PanelWork.beginStep env slot left target w
    | .finish => w.completed env slot none

/-- The step under way ended without an error that fails the run: the run goes on at the following index (R160, R168). -/
def PanelWork.goOn (env : PanelEnv) (r : Run) (w : PanelWork) : PanelWork :=
  match following r.index with
  | none => w.runaway env r.slot r.index
  | some j => w.beginStep env r.slot (maxSteps - r.count) j

/-- A step error ends the step: tolerated and recorded, or failing the run (R167). -/
def PanelWork.stepError (env : PanelEnv) (r : Run) (e : StepError) (w : PanelWork) : PanelWork :=
  let f : StepFailure := ⟨r.slot, r.index, env.kindAt r.index, e⟩
  if env.steps[r.index].tolerate then
    ({ w with unit := { w.unit with tolerated := some f } }).goOn env r
  else w.completed env r.slot (some f)

/-- The run under way keeps that a completion started it now, at index `i` (R148). -/
def PanelWork.keepStart (env : PanelEnv) (i : StepIndex) (w : PanelWork) : PanelWork :=
  { w with unit := { w.unit with run := w.unit.run.map fun r => { r with completionStart := some (i, env.now) } } }

/-- A run asked for starts: an absent slot succeeds at once, a present one begins at its index (R132, R155, R160). -/
def PanelWork.startRun (env : PanelEnv) (q : RunRequest) (w : PanelWork) : PanelWork :=
  match env.slots.get q.slot with
  | none => w.completed env q.slot none
  | some i =>
    let w := w.beginStep env q.slot maxSteps i
    if q.byCompletion then w.keepStart env i else w

/-- Starts the run asked for, and the runs that its immediate completion asks for in turn. One event starts at most
three, a CHECK, a WAKE and a SLEEP run. -/
def PanelWork.settle (env : PanelEnv) : Nat → PanelWork → PanelWork
  | 0, w => w
  | n + 1, w =>
    match w.request with
    | none => w
    | some q => PanelWork.settle env n (PanelWork.startRun env q { w with request := none })

/-! ## Events of a run -/

/-- Whether the bytes of a DATA reply all pass their mask and value (R164). -/
def bytesPass (bytes : List Byte) (pairs : List (Byte × Byte)) : Bool :=
  (bytes.zip pairs).all fun p => p.1 &&& p.2.1 = p.2.2

/-- The step judges the valid reply that ends its transaction (R162 to R165). -/
def PanelWork.judgeReply (env : PanelEnv) (r : Run) (reply : LinkReply) (w : PanelWork) : PanelWork :=
  match reply, env.steps[r.index].body with
  | .report e, _ => w.stepError env r (.reported e)
  | .ack, .send _ _ => w.goOn env r
  | .data bytes, .read _ pairs =>
    if bytes.length ≠ pairs.length then w.stepError env r .protocol
    else if bytesPass bytes pairs then w.goOn env r
    else w.stepError env r .mismatch
  | .data bytes, .poll _ pairs interval timeout =>
    if bytes.length ≠ pairs.length then w.stepError env r .protocol
    else if bytesPass bytes pairs then w.goOn env r
    else if r.pollBegan + ms timeout ≤ env.now then w.stepError env r .pollTimeout
    else w.setRun { r with phase := .pollGap (env.now + ms interval) }
  | _, _ => w.stepError env r .protocol

/-- A packet arrives from the panel (R161): the first valid reply ends the awaited transaction, any other packet is
discarded, and so is one that comes after its blanking has ended (R170). -/
def PanelWork.linkPacketArrives (env : PanelEnv) (packet : List Byte) (w : PanelWork) : PanelWork :=
  match w.unit.run with
  | some r =>
    match r.phase, validReply packet with
    | .awaitReply _ false, some reply => w.judgeReply env r reply
    | _, _ => w
  | none => w

/-- 2 ms have passed without a valid reply (R161). -/
def PanelWork.replyTimesOut (env : PanelEnv) (w : PanelWork) : PanelWork :=
  match w.unit.run with
  | some r =>
    match r.phase with
    | .awaitReply _ _ => w.stepError env r .noReply
    | _ => w
  | none => w

/-- A WAIT's duration has passed (R166). -/
def PanelWork.waitEnds (env : PanelEnv) (w : PanelWork) : PanelWork :=
  match w.unit.run with
  | some r =>
    match r.phase with
    | .waiting _ => w.goOn env r
    | _ => w
  | none => w

/-- The next read of a POLL falls due (R165, R169, R170). -/
def PanelWork.pollReadFallsDue (env : PanelEnv) (w : PanelWork) : PanelWork :=
  match w.unit.run with
  | some r =>
    match r.phase, env.steps[r.index].body with
    | .pollGap _, .poll code _ _ _ => w.transact env r code []
    | _, _ => w
  | none => w

/-- A POLL's timeout passes (R165): while the step waits for its next read it ends with POLL_TIMEOUT; a read in flight
goes on to its end (assumption 8 for a read that waits for blanking). -/
def PanelWork.pollTimesOut (env : PanelEnv) (w : PanelWork) : PanelWork :=
  match w.unit.run with
  | some r =>
    match r.phase, env.steps[r.index].body with
    | .pollGap _, .poll _ _ _ _ => w.stepError env r .pollTimeout
    | .waitStart, .poll _ _ _ _ => w.stepError env r .pollTimeout
    | _, _ => w
  | none => w

/-- Blanking opens: a transaction that waits for it sends its command packet (R170). -/
def PanelWork.blankingOpens (env : PanelEnv) (w : PanelWork) : PanelWork :=
  match w.unit.run with
  | some r =>
    match r.phase, env.steps[r.index].body with
    | .waitStart, .send code args => w.send env r code args
    | .waitStart, .read code _ => w.send env r code []
    | .waitStart, .poll code _ _ _ => w.send env r code []
    | _, _ => w
  | none => w

/-- Blanking ends: a reply still awaited on a link that now carries pixels is not received any more (R170). -/
def PanelUnit.blankingEnds (u : PanelUnit) : PanelUnit :=
  match u.run with
  | some r =>
    match r.phase with
    | .awaitReply packetEnds _ =>
      if u.state.streams then { u with run := some { r with phase := .awaitReply packetEnds true } } else u
    | _ => u
  | none => u

/-! ## Events of the controller -/

/-- A change event carrying the pair (R131): the inputs are replaced, then the state's rule acts. -/
def PanelWork.change (env : PanelEnv) (pair : Want) (w : PanelWork) : PanelWork :=
  let w := { w with unit := { w.unit with demandIn := pair.demand, wantedIn := pair.wanted } }
  match w.unit.state with
  | .dark => if pair.wanted then w.wake env else w
  | .live => if pair.demand then w else (w.enter env .idle).lingerFor env pair.wanted
  | .idle => if pair.demand then w.enter env .live else w.lingerFor env pair.wanted
  | .waking | .sleeping | .fault => w

/-- An attention (R141), counted in every state. -/
def PanelWork.attend (env : PanelEnv) (w : PanelWork) : PanelWork :=
  let w := { w with unit := { w.unit with attentions := Count.bump w.unit.attentions } }
  match w.unit.state with
  | .live | .idle => if w.unit.run.isSome then w else w.askCheck env
  | .waking | .sleeping => { w with unit := { w.unit with latched := true } }
  | .dark | .fault => w

/-- PANEL RESTART in FAULT (R147). -/
def PanelWork.restart (env : PanelEnv) (w : PanelWork) : PanelWork :=
  let w := { w with unit := { w.unit with faultRecord := none, recoveryCount := 0, recoveryWindow := none } }
  if w.unit.wantedIn then w.wake env else w.enter env .dark

/-- The step that PANEL STOP records of the run it aborts: the step under way (R145, R171); taken together with a
completion that has started the run, the run's first step (R148, assumption 24). -/
def Run.stoppedAt (now : Nat) (r : Run) : StepIndex :=
  match r.completionStart with
  | some (first, startedAt) => if startedAt = now then first else r.index
  | none => r.index

/-- PANEL STOP outside FAULT (R148): the record names the slot and a step of a run that is aborted. -/
def PanelWork.stop (env : PanelEnv) (w : PanelWork) : PanelWork :=
  let step := w.unit.run.map fun r => (r.slot, r.stoppedAt env.now, env.kindAt (r.stoppedAt env.now))
  w.fault env .stopped step none

/-! ## On the whole state -/

/-- What panel X reads of the rest of the part. -/
def State.panelEnv (x : Panel) (s : State) : PanelEnv :=
  { now := s.now, nextRow := s.nextRow, lingerTime := s.lingerTime, steps := s.scripts.steps, slots := s.scripts.slots x }

/-- An event at panel X: the work it calls for, the runs that it starts, and the PANEL flag. -/
def State.onPanel (x : Panel) (work : PanelEnv → PanelWork → PanelWork) (s : State) : State :=
  let env := s.panelEnv x
  let w := (work env ⟨s.panel x, false, none⟩).settle env 8
  (s.setPanel x w.unit).raiseIf w.notify (panelFlag x)

end Sys2Proof.Machine
end

