-- ==== Sys2Proof/Machine/Stance.lean ====
section
/-! DEFINITION. The Posture Unit's work: zones, triggers, dwell, demand, pre-demand and the change events it delivers
(chapter 2). -/

namespace Sys2Proof.Machine

/-! ## Zones (R25) -/

/-- The lower bound b_z of a posture's zone; b0 is 0. -/
def Zones.lower (z : Zones) : Posture → Nat
  | .shut => 0 | .peek => z.b1 | .book => z.b2 | .flat => z.b3 | .tent => z.b4 | .backfold => z.b5

/-- The upper bound b_{z+1} of a posture's zone; b6 is 3601. -/
def Zones.upper (z : Zones) : Posture → Nat
  | .shut => z.b1 | .peek => z.b2 | .book => z.b3 | .flat => z.b4 | .tent => z.b5 | .backfold => 3601

/-- The zone containing an angle: the highest zone whose lower bound the angle reaches, so that an empty zone is passed
over (R25). -/
def Zones.containing (z : Zones) (a : Nat) : Posture :=
  if z.b5 ≤ a then .backfold
  else if z.b4 ≤ a then .tent
  else if z.b3 ≤ a then .flat
  else if z.b2 ≤ a then .book
  else if z.b1 ≤ a then .peek
  else .shut

/-- The table is in order and inside the angle range (R25, R26). -/
def Zones.valid (z : Zones) : Bool :=
  z.b1 ≤ z.b2 && z.b2 ≤ z.b3 && z.b3 ≤ z.b4 && z.b4 ≤ z.b5 && z.b5 ≤ 3600

/-! ## From angle to posture (R29 to R33) -/

/-- A pending zone table comes in force and the dwell state is cleared (R27). -/
def PostureUnit.takePendingZones (u : PostureUnit) : PostureUnit :=
  match u.pendingZones with
  | none => u
  | some z => { u with zones := z, pendingZones := none, dwelling := none }

/-- The candidate for angle `a`: with no posture the zone containing the angle (R31); otherwise the zone containing it
on an up-trigger or a down-trigger, else the posture's own zone (R32). -/
def PostureUnit.candidate (u : PostureUnit) (a : Nat) : Posture :=
  match u.posture with
  | none => u.zones.containing a
  | some c =>
    if (c ≠ .backfold ∧ u.zones.upper c + u.hysteresis ≤ a) ∨ (c ≠ .shut ∧ a + u.hysteresis < u.zones.lower c)
    then u.zones.containing a else c

/-- The dwell state with the candidate taken in (R33). -/
def dwellOn (before : Option Dwelling) (candidate : Posture) : Dwelling :=
  match before with
  | some d => if d.candidate = candidate then ⟨candidate, d.count + 1⟩ else ⟨candidate, 1⟩
  | none => ⟨candidate, 1⟩

/-- Posture evaluation at an angle (R31 to R33). -/
def PostureUnit.evaluateAt (a : Nat) (u : PostureUnit) : PostureUnit :=
  let c := u.candidate a
  if u.posture = some c then { u with dwelling := none }
  else
    let d := dwellOn u.dwelling c
    if u.dwell ≤ d.count then { u with posture := some d.candidate, dwelling := none }
    else { u with dwelling := some d }

/-- Posture evaluation at a sample completion: in TRACK with the angle TRACKING, else the dwell state is cleared (R30). -/
def PostureUnit.evaluate (u : PostureUnit) : PostureUnit :=
  match u.mode, u.report with
  | .track, .tracking a => u.evaluateAt a
  | _, _ => { u with dwelling := none }

/-! ## Demand and pre-demand (R41, R42) -/

/-- A demand field resolved for a panel under a lead panel (table of R41). -/
def Demand.resolve (lead x : Panel) : Demand → Bool
  | .on => true
  | .off => false
  | .lead => x = lead
  | .trail => x ≠ lead

/-- The demand field of panel X in a profile. -/
def Profile.demand (p : Profile) : Panel → Demand
  | .a => p.demandA
  | .b => p.demandB

/-- Whether a posture's profile resolves panel X to ON. -/
def PostureUnit.wouldDemand (u : PostureUnit) (x : Panel) (p : Posture) : Bool :=
  ((u.profile p).demand x).resolve u.lead x

/-- The resolved demand of panel X; with the posture NONE it is OFF (R41). -/
def PostureUnit.demandOf (u : PostureUnit) (x : Panel) : Bool :=
  match u.posture with
  | none => false
  | some p => u.wouldDemand x p

/-- Pre-demand toward the upper neighbour (R42). -/
def PostureUnit.nearsUpper (u : PostureUnit) (x : Panel) (c : Posture) (a : Nat) : Bool :=
  let hi := u.zones.upper c
  hi ≤ 3600 && hi ≤ a + u.margin && u.wouldDemand x (u.zones.containing hi)

/-- Pre-demand toward the lower neighbour (R42). -/
def PostureUnit.nearsLower (u : PostureUnit) (x : Panel) (c : Posture) (a : Nat) : Bool :=
  let lo := u.zones.lower c
  0 < lo && a < lo + u.margin && u.wouldDemand x (u.zones.containing (lo - 1))

/-- The pre-demand of panel X, from the held angle report and the demand in force (R42). -/
def PostureUnit.preDemandOf (u : PostureUnit) (x : Panel) : Bool :=
  match u.posture, u.mode, u.report with
  | some c, .track, .tracking a => !(u.need x).demand && (u.nearsUpper x c a || u.nearsLower x c a)
  | _, _, _ => false

/-- Both demands are resolved afresh (R41). -/
def PostureUnit.resolveDemands (u : PostureUnit) : PostureUnit :=
  { u with needA := { u.needA with demand := u.demandOf .a }, needB := { u.needB with demand := u.demandOf .b } }

/-- Both pre-demands are evaluated afresh (R42, R43). -/
def PostureUnit.evaluatePreDemands (u : PostureUnit) : PostureUnit :=
  { u with needA := { u.needA with preDemand := u.preDemandOf .a }, needB := { u.needB with preDemand := u.preDemandOf .b } }

/-- Wanted is demand ON or pre-demand true (R42). -/
def PanelNeed.wanted (n : PanelNeed) : Bool := n.demand || n.preDemand

/-- The pair (demand, wanted) in force. -/
def PanelNeed.pair (n : PanelNeed) : Want := ⟨n.demand, n.wanted⟩

/-! ## On the whole state -/

/-- One change event to panel X when its pair differs from the one last delivered (R44). -/
def State.deliverTo (x : Panel) (s : State) : State :=
  let n := s.posture.need x
  if n.pair = n.delivered then s
  else { s with posture := s.posture.setNeed x { n with delivered := n.pair } }.onPanel x fun env w => w.change env n.pair

/-- The change events at the end of an event of the Posture Unit (R44). -/
def State.deliver (s : State) : State := (s.deliverTo .a).deliverTo .b

/-- The Posture Unit's work for a sample completion, in the order of R29. -/
def State.postureWork (report : AngleReport) (s : State) : State :=
  let u := ({ s.posture with report := report }).takePendingZones.evaluate
  let changed := u.posture ≠ s.posture.posture
  let t := { s with posture := u.resolveDemands.evaluatePreDemands }.deliver
  t.raiseIf changed .posture

end Sys2Proof.Machine
end

