-- ==== Sys2Proof/Machine/Hinge.lean ====
section
/-! DEFINITION. The Hinge Unit: samples, pivot arithmetic, angle states, zero capture, and its events and commands
(chapter 1). -/

namespace Sys2Proof.Machine

/-! ## Pivot arithmetic (R3 to R8) -/

/-- Whether a read gave a fresh reading (R2). -/
def Reading.isFresh : Reading → Bool
  | .fresh _ => true
  | _ => false

/-- Whether a read has ended (R2). -/
def Reading.ended : Reading → Bool
  | .waiting => false
  | _ => true

/-- A pivot's own update at a sample completion (R3). -/
def PivotState.update (r : Reading) (p : PivotState) : PivotState :=
  match r with
  | .fresh raw => { p with lastGood := some raw, missRun := 0 }
  | _ => { p with missRun := Count.bump p.missRun, missTotal := Count.bump p.missTotal }

/-- The signed delta of a raw count from its zero; `negative` is − polarity (R4). -/
def signedDelta (negative : Bool) (zero raw : RawCount) : Int :=
  let u : Int := (if negative then (zero.toNat : Int) - raw.toNat else (raw.toNat : Int) - zero.toNat) % 4096
  if u < 3072 then u else u - 4096

/-- The clamped delta (R4). -/
def clampDelta (d : Int) : Nat := if d < 0 then 0 else if 2048 < d then 2048 else d.toNat

/-- The latest delta and clamp indication (R4). -/
def PivotState.recordDelta (d : Int) (p : PivotState) : PivotState :=
  { p with delta := some d, clamped := d < 0 || 2048 < d }

/-- The instantaneous angle of two clamped deltas (R6). -/
def foldAngle (cL cR : Nat) : Nat := ((cL + cR) * 3600 + 2048) / 4096

/-- One filter step toward A × 256 (R7). -/
def filterStep (shift a filter : Nat) : Nat :=
  let d : Int := (a : Int) * 256 - filter
  let q := d.tdiv (2 ^ shift)
  let move := if q = 0 then d.sign else q
  (filter + move).toNat

/-- F rounded to the nearest tenth of a degree (R7). -/
def reportedOf (filter : Nat) : Nat := (filter + 128) / 256

/-- The filter accumulator, absent in ACQUIRING. -/
def AngleTrack.filter? : AngleTrack → Option Nat
  | .acquiring => none
  | .tracking f => some f
  | .faulted f _ _ => some f

/-- The reported angle, absent in ACQUIRING (R7). -/
def AngleTrack.reported? (t : AngleTrack) : Option Nat := t.filter?.map reportedOf

/-- The fault set, empty outside FAULTED. -/
def AngleTrack.faults : AngleTrack → AngleFaults
  | .faulted _ f _ => f
  | _ => ⟨false, false, false⟩

/-- The clean count, 0 outside FAULTED. -/
def AngleTrack.clean : AngleTrack → Nat
  | .faulted _ _ n => n
  | _ => 0

/-- What is handed over to the Posture Unit (R14). -/
def AngleTrack.report : AngleTrack → AngleReport
  | .acquiring => .acquiring
  | .tracking f => .tracking (reportedOf f)
  | .faulted f _ _ => .faulted (reportedOf f)

/-! ## Zero capture (R16 to R18) -/

/-- The offset of a reading from the first one, in −2048..2047 (R17). -/
def captureOffset (first raw : RawCount) : Int := ((raw.toNat : Int) - first.toNat + 2048) % 4096 - 2048

def CaptureSum.add (raw : RawCount) (c : CaptureSum) : CaptureSum := { c with sum := c.sum + captureOffset c.first raw }

/-- A counted sample joins the capture (R17). -/
def Capture.count (rawL rawR : RawCount) : Capture → Capture
  | .started => .counting 1 (CaptureSum.add rawL ⟨rawL, 0⟩) (CaptureSum.add rawR ⟨rawR, 0⟩)
  | .counting n l r => .counting (n + 1) (l.add rawL) (r.add rawR)

/-- The zero that a completed capture gives a pivot (R18). -/
def CaptureSum.zero (c : CaptureSum) : RawCount := BitVec.ofInt 12 ((c.first.toNat : Int) + (c.sum + 8) / 16)

/-- Samples counted by a capture. -/
def Capture.counted : Capture → Nat
  | .started => 0
  | .counting n _ _ => n

/-- What a sample completion does to the Hinge Unit: its state after, and the flags it sets. -/
structure HingeWork where
  unit : Hinge
  angleFault : Bool
  calDone : Bool
deriving DecidableEq, Repr

/-- The capture's accumulation at a contributing sample (R17): FAILED at a miss, else the sample is counted. -/
def HingeWork.accumulate (sm : Sample) (w : HingeWork) : HingeWork :=
  match w.unit.capture with
  | none => w
  | some c =>
    if !sm.contributes then w
    else match sm.left, sm.right with
      | .fresh rawL, .fresh rawR => { w with unit := { w.unit with capture := some (c.count rawL rawR) } }
      | _, _ => { w with unit := { w.unit with capture := none, lastResult := .failed }, calDone := true }

/-- The end of a capture whose sixteenth sample this was (R18). -/
def HingeWork.endCapture (w : HingeWork) : HingeWork :=
  match w.unit.capture with
  | some (.counting 16 l r) =>
    { w with
      unit := { w.unit with
        left := { w.unit.left with zero := l.zero }
        right := { w.unit.right with zero := r.zero }
        seedPending := true
        capture := none
        lastResult := .ok }
      calDone := true }
  | _ => w

/-! ## A sample completion (R9) -/

/-- Misses of both pivots updated, and the sample counted (R2, R3). -/
def Hinge.updatePivots (sm : Sample) (h : Hinge) : Hinge :=
  { h with left := h.left.update sm.left, right := h.right.update sm.right, samples := Count.bump h.samples }

/-- Skew is judged when both pivots are fresh in this sample (R5). -/
def Hinge.judgeSkew (both : Bool) (dL dR : Int) (h : Hinge) : Hinge :=
  if both then
    let skew := (dL - dR).natAbs
    if h.skewLimit < skew then
      { h with skew := some skew, skewRun := Count.bump h.skewRun, overLimit := Count.bump h.overLimit }
    else { h with skew := some skew, skewRun := 0 }
  else h

/-- Deltas, skew and instantaneous angle of an angle-producing sample (R4 to R6); the angle of this sample, if any. -/
def Hinge.measure (straps : Straps) (sm : Sample) (h : Hinge) : Hinge × Option Nat :=
  match h.left.lastGood, h.right.lastGood with
  | some rawL, some rawR =>
    let dL := signedDelta straps.pola h.left.zero rawL
    let dR := signedDelta straps.polb h.right.zero rawR
    let a := foldAngle (clampDelta dL) (clampDelta dR)
    let h := { h with left := h.left.recordDelta dL, right := h.right.recordDelta dR, instant := some a }
    (h.judgeSkew (sm.left.isFresh && sm.right.isFresh) dL dR, some a)
  | _, _ => (h, none)

/-- The fault conditions of R11. -/
def Hinge.conditions (h : Hinge) : AngleFaults :=
  ⟨5 ≤ h.left.missRun.toNat, 5 ≤ h.right.missRun.toNat, 4 ≤ h.skewRun.toNat⟩

def AngleFaults.any (f : AngleFaults) : Bool := f.lostL || f.lostR || f.skew

def AngleFaults.union (f g : AngleFaults) : AngleFaults := ⟨f.lostL || g.lostL, f.lostR || g.lostR, f.skew || g.skew⟩

/-- Clean samples needed to leave FAULTED (R13). -/
def cleanNeeded : Nat := 8

/-- A sample is clean when both pivots are fresh in it and its skew is within the limit (R12). -/
def Hinge.isClean (sm : Sample) (h : Hinge) : Bool :=
  sm.left.isFresh && sm.right.isFresh && (match h.skew with | some k => k ≤ h.skewLimit | none => false)

/-- The filter is seeded at an angle: TRACKING, seed pending cleared (R8). -/
def Hinge.seed (a : Nat) (h : Hinge) : Hinge := { h with angle := .tracking (a * 256), seedPending := false }

/-- The angle-state handling of R10 to R13, with this sample's angle if it produced one. -/
def HingeWork.handleAngle (sm : Sample) (angle : Option Nat) (w : HingeWork) : HingeWork :=
  let h := w.unit
  match h.angle, angle with
  | .acquiring, none => w
  | .acquiring, some a => { w with unit := h.seed a }
  | .tracking f, angle =>
    if h.conditions.any then
      { w with
        unit := { h with angle := .faulted f h.conditions 0, faultEntries := Count.bump h.faultEntries }
        angleFault := true }
    else match angle with
      | none => w
      | some a =>
        if h.seedPending then { w with unit := h.seed a }
        else { w with unit := { h with angle := .tracking (filterStep h.shift a f) } }
  | .faulted f faults clean, angle =>
    let clean' := if h.isClean sm then clean + 1 else 0
    match angle with
    | some a =>
      if cleanNeeded ≤ clean' then { w with unit := h.seed a, angleFault := true }
      else { w with unit := { h with angle := .faulted f (faults.union h.conditions) clean' } }
    | none => { w with unit := { h with angle := .faulted f (faults.union h.conditions) clean' } }

/-- The Hinge Unit's own work at a sample completion, in the order of R9. -/
def Hinge.complete (straps : Straps) (sm : Sample) (h : Hinge) : HingeWork :=
  let w := HingeWork.accumulate sm ⟨({ h with sample := none }).updatePivots sm, false, false⟩
  let m := w.unit.measure straps sm
  (HingeWork.handleAngle sm m.2 { w with unit := m.1 }).endCapture

/-- A sample completion: the Hinge Unit's work, its flags, and the hand-over to the Posture Unit (R9, R14). -/
def State.completeSample (sm : Sample) (s : State) : State :=
  let w := s.hinge.complete s.port.straps sm
  let s := ({ s with hinge := w.unit }.raiseIf w.angleFault .angleFault).raiseIf w.calDone .calDone
  s.postureWork w.unit.angle.report

/-- The read of a pivot in a sample. -/
def Sample.read (sm : Sample) : Pivot → Reading
  | .left => sm.left
  | .right => sm.right

def Sample.setRead (p : Pivot) (r : Reading) (sm : Sample) : Sample :=
  match p with
  | .left => { sm with left := r }
  | .right => { sm with right := r }

/-- A pivot's read in flight ends; the second of the two to end completes the sample. With no read of the pivot in
flight nothing happens (R2). -/
def State.endRead (p : Pivot) (r : Reading) (s : State) : State :=
  match s.hinge.sample with
  | none => s
  | some sm =>
    if sm.read p = .waiting then
      let sm := sm.setRead p r
      if sm.left.ended && sm.right.ended then s.completeSample sm
      else { s with hinge := { s.hinge with sample := some sm } }
    else s

/-! ## Events -/

/-- Length of a read's time limit in microseconds (R2). -/
def readLimit : Nat := 1000

/-- A read with no reply 1 ms after its request ends as a miss at that moment (R2). -/
def State.readTimesOut (p : Pivot) (s : State) : State :=
  match s.hinge.sample with
  | none => s
  | some sm => if sm.read p = .waiting then (s.reach (sm.requestedAt + readLimit)).endRead p .miss else s

/-- A sample starts: both read requests are sent, and the next interval starts with the interval in force (R1). It
contributes to a zero capture when one is in flight (R16). -/
def State.startSample (s : State) : State :=
  { s with hinge := { s.hinge with
      nextSampleAt := s.now + ms s.hinge.interval
      sample := some ⟨s.now, .waiting, .waiting, s.hinge.capture.isSome⟩ } }

/-- SAMPLE_INTERVAL_EXPIRY: a sample starts and so does the next interval (R1). Reads of an earlier sample that are
still awaited ended as misses 1 ms after their request (R2, assumption 7). -/
def execSampleIntervalExpiry (s : State) : Result :=
  s.onEvent fun s => (((s.readTimesOut .left).readTimesOut .right).reach s.hinge.nextSampleAt).startSample

/-- SENSOR_REPLY: fresh when field-OK is set, else a miss (R2). -/
def execSensorReply (p : Pivot) (raw : RawCount) (fieldOk : Bool) (s : State) : Result :=
  s.onEvent fun s => s.endRead p (if fieldOk then .fresh raw else .miss)

/-- SENSOR_READ_TIMEOUT (R2). -/
def execSensorReadTimeout (p : Pivot) (s : State) : Result :=
  s.onEvent fun s => s.readTimesOut p

/-! ## Commands -/

/-- HINGE CONFIG (R21). -/
def execHingeConfig (interval shift skewLimit : Half) (s : State) : Result :=
  s.onCommand fun s =>
    if s.hinge.capture.isSome then refuse .busy s
    else
      let i := clamp 5 50 interval.toNat
      let k := clamp 0 4 shift.toNat
      let l := clamp 8 255 skewLimit.toNat
      done { s with hinge := { s.hinge with interval := i, shift := k, skewLimit := l } } (byte2 i ++ byte2 k ++ byte2 l)

/-- Angle states in the order of R22. -/
def angleStateByte : AngleTrack → List Byte
  | .acquiring => byte1 0
  | .tracking _ => byte1 1
  | .faulted _ _ _ => byte1 2

/-- A set of SENSOR_LOST_L, SENSOR_LOST_R and SKEW in one byte. -/
def angleFaultsByte (f : AngleFaults) : List Byte :=
  byte1 ((if f.lostL then 1 else 0) + (if f.lostR then 2 else 0) + (if f.skew then 4 else 0))

/-- A field given for each pivot, L first (assumption 13). -/
def perPivot (h : Hinge) (enc : PivotState → List Byte) : List Byte := enc h.left ++ enc h.right

/-- The data of HINGE READ, in the order of R22. -/
def Hinge.readData (h : Hinge) : List Byte :=
  angleStateByte h.angle ++ optional 2 byte2 h.angle.reported? ++ optional 4 byte4 h.angle.filter? ++
  optional 2 byte2 h.instant ++ angleFaultsByte h.angle.faults ++ byte1 h.angle.clean ++ byteOfBool h.seedPending ++
  perPivot h (fun p => optional 2 (fun r : RawCount => byte2 r.toNat) p.lastGood) ++
  perPivot h (fun p => optional 2 deltaBytes p.delta) ++
  perPivot h (fun p => byteOfBool p.clamped) ++
  perPivot h (fun p => countBytes p.missRun) ++
  optional 2 byte2 h.skew ++ countBytes h.skewRun ++
  byte2 h.interval ++ byte2 h.shift ++ byte2 h.skewLimit ++
  countBytes h.samples ++ perPivot h (fun p => countBytes p.missTotal) ++ countBytes h.overLimit ++
  countBytes h.faultEntries

/-- HINGE READ (R22). -/
def execHingeRead (s : State) : Result :=
  s.onCommand fun s => done s s.hinge.readData

/-- ZERO WRITE (R15). RANGE before BUSY is the model's choice where both hold (DEDUCED, assumption 25): R15 gives both
answers and no order. -/
def execZeroWrite (zeroL zeroR : Half) (s : State) : Result :=
  s.onCommand fun s =>
    if 4096 ≤ zeroL.toNat ∨ 4096 ≤ zeroR.toNat then refuse .range s
    else if s.hinge.capture.isSome then refuse .busy s
    else
      done { s with hinge := { s.hinge with
        left := { s.hinge.left with zero := zeroL.setWidth 12 }
        right := { s.hinge.right with zero := zeroR.setWidth 12 }
        seedPending := true } } []

/-- ZERO CAPTURE (R16). -/
def execZeroCapture (s : State) : Result :=
  s.onCommand fun s =>
    if s.hinge.capture.isSome then refuse .busy s
    else ({ s with hinge := { s.hinge with capture := some .started } }, Reply.bare .started)

/-- Polarities in the order + 0, − 1. -/
def polarityByte (negative : Bool) : List Byte := byte1 (if negative then 1 else 0)

def CaptureResult.byte : CaptureResult → List Byte
  | .none => byte1 0
  | .ok => byte1 1
  | .failed => byte1 2

/-- ZERO READ (R20). -/
def execZeroRead (s : State) : Result :=
  s.onCommand fun s =>
    done s (perPivot s.hinge (fun p => byte2 p.zero.toNat) ++
      polarityByte s.port.straps.pola ++ polarityByte s.port.straps.polb ++
      byteOfBool s.hinge.capture.isSome ++ byte1 (match s.hinge.capture with | some c => c.counted | none => 0) ++
      s.hinge.lastResult.byte)

end Sys2Proof.Machine
end

