-- ==== Sys2Proof/Machine/Posture.lean ====
section
/-! DEFINITION. The commands of the Posture Unit (chapter 2). -/

namespace Sys2Proof.Machine

/-- The Posture Unit takes a new state and delivers the change events that result (R44). -/
def State.setPosture (u : PostureUnit) (s : State) : State := { s with posture := u }.deliver

/-- Data bytes of a zone table, b1 first. -/
def Zones.bytes (z : Zones) : List Byte := byte2 z.b1 ++ byte2 z.b2 ++ byte2 z.b3 ++ byte2 z.b4 ++ byte2 z.b5

/-- ZONES WRITE (R26). -/
def execZonesWrite (b1 b2 b3 b4 b5 : Half) (s : State) : Result :=
  s.onCommand fun s =>
    match zonesOf b1 b2 b3 b4 b5 with
    | none => refuse .range s
    | some z => done { s with posture := { s.posture with pendingZones := some z } } []

/-- ZONES READ (R28). -/
def execZonesRead (s : State) : Result :=
  s.onCommand fun s => done s (s.posture.zones.bytes ++ optional 10 Zones.bytes s.posture.pendingZones)

/-- POSTURE CONFIG (R34). -/
def execPostureConfig (hysteresis dwell margin : Half) (s : State) : Result :=
  s.onCommand fun s =>
    let h := clamp 0 100 hysteresis.toNat
    let d := clamp 1 16 dwell.toNat
    let m := clamp 0 300 margin.toNat
    let u := { s.posture with hysteresis := h, dwell := d, margin := m }
    done (s.setPosture u.evaluatePreDemands) (byte2 h ++ byte2 d ++ byte2 m)

/-- PROFILE WRITE (R38). -/
def execProfileWrite (posture : Byte) (fields : RawProfile) (s : State) : Result :=
  s.onCommand fun s =>
    match postureOfByte posture, profileOf fields with
    | some p, some f =>
      let u := { s.posture with profiles := s.posture.profiles.set p.number f }
      let u := if u.posture = some p then u.resolveDemands else u
      done (s.setPosture u.evaluatePreDemands) []
    | _, _ => refuse .range s

/-- Data bytes of a profile, in the order of R37. -/
def Profile.bytes (p : Profile) : List Byte :=
  demandByte p.demandA ++ demandByte p.demandB ++ rotationByte p.turnedA ++ rotationByte p.turnedB ++
  byteOfBool p.spanAllowed ++ colourBytes p.background

/-- PROFILE READ (R39). -/
def execProfileRead (posture : Byte) (s : State) : Result :=
  s.onCommand fun s =>
    match postureOfByte posture with
    | some p => done s (s.posture.profile p).bytes
    | none => refuse .range s

/-- TRACK or HOLD: the mode is set, the dwell state cleared, the posture kept, pre-demand evaluated afresh (R35). -/
def State.setMode (mode : TrackMode) (s : State) : State :=
  s.setPosture { s.posture with mode := mode, dwelling := none }.evaluatePreDemands

/-- TRACK MODE TRACK (R35). -/
def execTrackModeTrack (s : State) : Result :=
  s.onCommand fun s => done (s.setMode .track) []

/-- TRACK MODE HOLD (R35). -/
def execTrackModeHold (s : State) : Result :=
  s.onCommand fun s => done (s.setMode .hold) []

/-- TRACK MODE FORCE (R36). -/
def execTrackModeForce (posture : Byte) (s : State) : Result :=
  s.onCommand fun s =>
    match postureOfByte posture with
    | none => refuse .range s
    | some p =>
      let u := { s.posture with mode := .forced, dwelling := none, posture := some p }
      let changed := s.posture.posture ≠ some p
      done ((s.setPosture u.resolveDemands.evaluatePreDemands).raiseIf changed .posture) []

/-- TRACK MODE with a mode value that names none of the three (R35). -/
def execTrackModeInvalidMode (s : State) : Result :=
  s.onCommand fun s => refuse .range s

/-- LEAD SET (R40). -/
def execLeadSet (panel : Byte) (s : State) : Result :=
  s.onCommand fun s =>
    match panelOfByte panel with
    | none => refuse .range s
    | some x =>
      if s.posture.lead = x then done s []
      else done (s.setPosture { s.posture with lead := x }.resolveDemands.evaluatePreDemands) []

/-- Tracking modes in the order of table 2.1. -/
def TrackMode.byte : TrackMode → List Byte
  | .track => byte1 0
  | .hold => byte1 1
  | .forced => byte1 2

/-- The angle report's state and angle (R46). -/
def AngleReport.bytes : AngleReport → List Byte
  | .acquiring => byte1 0 ++ optional 2 byte2 none
  | .tracking a => byte1 1 ++ optional 2 byte2 (some a)
  | .faulted a => byte1 2 ++ optional 2 byte2 (some a)

/-- The data of POSTURE READ, in the order of R46; the bounds lo and hi are one optional part (assumption 14), the
fields given for each panel come A first (assumption 13). -/
def PostureUnit.readData (u : PostureUnit) : List Byte :=
  postureByte u.posture ++ u.mode.byte ++ u.report.bytes ++
  optional 4 (fun p => byte2 (u.zones.lower p) ++ byte2 (u.zones.upper p)) u.posture ++
  optional 1 (fun d : Dwelling => postureByte (some d.candidate)) u.dwelling ++
  byte1 (match u.dwelling with | some d => d.count | none => 0) ++
  byte2 u.hysteresis ++ byte2 u.dwell ++ byte2 u.margin ++ panelByte u.lead ++
  onOffByte u.needA.delivered.demand ++ onOffByte u.needB.delivered.demand ++
  byteOfBool u.needA.preDemand ++ byteOfBool u.needB.preDemand ++
  byteOfBool u.needA.delivered.wanted ++ byteOfBool u.needB.delivered.wanted ++
  byteOfBool u.pendingZones.isSome

/-- POSTURE READ (R46). -/
def execPostureRead (s : State) : Result :=
  s.onCommand fun s => done s s.posture.readData

end Sys2Proof.Machine
end

