-- ==== Sys2Proof/Machine/Table.lean ====
section
/-! DEFINITION. The Placement Table: views, handle status, its commands, and the reports of the Frame Store it acts on
(chapters 3 and 4). -/

namespace Sys2Proof.Machine

/-! ## Views and handle status -/

/-- The handles 0 to 31 in ascending order. -/
def handles : List Handle := List.finRange 32

/-- Whether a view holds a handle (R52). -/
def View.holds (v : View) (h : Handle) : Bool := v[h].isSome

/-- Whether STAGED is present and holds a handle (R54). -/
def Table.stagedHolds (t : Table) (h : Handle) : Bool :=
  match t.staged with
  | some p => p.view.holds h
  | none => false

/-- Whether a published view holds a handle (R55). -/
def Table.publishedHolds (t : Table) (h : Handle) : Bool :=
  t.stagedHolds h || t.capture.view.holds h || t.shown.view.holds h

/-- Handle status (R54). -/
inductive HandleStatus where
  | free | pending | active | retiring
deriving DecidableEq, Repr

/-- The status that the four memberships give (table of R54). -/
def Table.status (t : Table) (h : Handle) : HandleStatus :=
  if t.draft.holds h then (if t.shown.view.holds h then .active else .pending)
  else if t.publishedHolds h then .retiring else .free

/-- The lowest-numbered FREE handle (R56). -/
def Table.lowestFree (t : Table) : Option Handle := handles.find? fun h => t.status h = .free

/-- DRAFT with every entry that carries the tag removed (R61). -/
def View.withoutTag (tag : Half) (v : View) : View :=
  Vector.ofFn fun h : Handle =>
    match v[h] with
    | some e => if e.tag = tag then none else some e
    | none => none

/-- The handles of a view whose entries carry the tag, ascending (R64). -/
def View.tagged (tag : Half) (v : View) : List Handle :=
  handles.filter fun h => match v[h] with | some e => e.tag = tag | none => false

/-- The view that DRAFT REVERT copies: STAGED, or CAPTURE when STAGED is absent (R62). -/
def Table.revertSource (t : Table) : Published := t.staged.getD t.capture

/-! ## What the Frame Store's reports do -/

/-- A binding at a source frame start (R80). -/
def Table.bind (t : Table) : Table :=
  match t.staged with
  | some p => { t with capture := p, staged := none }
  | none => t

/-- A flip: SHOWN becomes a copy of CAPTURE (R82). -/
def Table.flip (t : Table) : Table := { t with shown := t.capture }

/-- Whether a flip changes the generation of SHOWN (R82). -/
def Table.flipShowsNew (t : Table) : Bool := t.capture.gen ≠ t.shown.gen

/-! ## Commands -/

def State.setDraft (v : View) (s : State) : State := { s with table := { s.table with draft := v } }

/-- ENTRY BIND (R56). -/
def execEntryBind (fields : RawEntry) (s : State) : Result :=
  s.onCommand fun s =>
    match entryOf fields with
    | none => refuse .range s
    | some e =>
      match s.table.lowestFree with
      | none => refuse .exhausted s
      | some h => done (s.setDraft (s.table.draft.set h (some e))) (handleByte h)

/-- ENTRY SET (R58, R59). -/
def execEntrySet (handle selection : Byte) (fields : RawEntry) (s : State) : Result :=
  s.onCommand fun s =>
    match handleOfByte handle with
    | none => refuse .range s
    | some h =>
      match s.table.draft[h] with
      | none => refuse .absent s
      | some e =>
        match setGroups fields selection e with
        | none => refuse .range s
        | some e' => done (s.setDraft (s.table.draft.set h (some e'))) []

/-- ENTRY RETIRE (R60). -/
def execEntryRetire (handle : Byte) (s : State) : Result :=
  s.onCommand fun s =>
    match handleOfByte handle with
    | none => refuse .range s
    | some h =>
      if s.table.draft.holds h then done (s.setDraft (s.table.draft.set h none)) [] else refuse .absent s

/-- TAG RETIRE (R61). -/
def execTagRetire (tag : Half) (s : State) : Result :=
  s.onCommand fun s =>
    done (s.setDraft (s.table.draft.withoutTag tag)) (byte1 (s.table.draft.tagged tag).length)

/-- An optional origin. -/
def originBytes : Option Point → List Byte := optional 4 pointBytes

/-- The entry fields of ENTRY READ, in the order of R65. -/
def Entry.bytes (e : Entry) : List Byte :=
  byte2 e.tag.toNat ++ rectBytes e.source ++ panelByte e.home ++ pointBytes e.homeAt ++ originBytes e.guestAt ++
  originBytes e.spanAt ++ byte1 e.priority ++ fitModeByte e.fit ++ byte1 e.visibility.toNat

def ViewName.byte : ViewName → List Byte
  | .draft => byte1 0
  | .staged => byte1 1
  | .capture => byte1 2
  | .shown => byte1 3

/-- A named view's record of a handle, with the view's generation (none for DRAFT) (R65). -/
def Table.recordIn (t : Table) (h : Handle) : ViewName → Option (Option Gen × Entry)
  | .draft => t.draft[h].map fun e => (none, e)
  | .staged =>
    match t.staged with
    | some p => p.view[h].map fun e => (some p.gen, e)
    | none => none
  | .capture => t.capture.view[h].map fun e => (some t.capture.gen, e)
  | .shown => t.shown.view[h].map fun e => (some t.shown.gen, e)

/-- ENTRY READ (R65). -/
def execEntryRead (handle view : Byte) (s : State) : Result :=
  s.onCommand fun s =>
    match handleOfByte handle, viewOfByte view with
    | some h, some v =>
      match s.table.recordIn h v with
      | some (gen, e) => done s (handleByte h ++ v.byte ++ optional 4 genBytes gen ++ e.bytes)
      | none => refuse .absent s
    | _, _ => refuse .range s

def HandleStatus.byte : HandleStatus → List Byte
  | .free => byte1 0
  | .pending => byte1 1
  | .active => byte1 2
  | .retiring => byte1 3

/-- A published view's generation when it holds the handle (R66). -/
def Published.genIf (p : Published) (h : Handle) : Option Gen := if p.view.holds h then some p.gen else none

/-- The data of ENTRY STATUS, in the order of R66. -/
def Table.statusData (t : Table) (h : Handle) : List Byte :=
  handleByte h ++ (t.status h).byte ++ byteOfBool (t.draft.holds h) ++
  optional 4 genBytes (t.staged.bind fun p => p.genIf h) ++
  optional 4 genBytes (t.capture.genIf h) ++ optional 4 genBytes (t.shown.genIf h)

/-- ENTRY STATUS (R66). -/
def execEntryStatus (handle : Byte) (s : State) : Result :=
  s.onCommand fun s =>
    match handleOfByte handle with
    | none => refuse .range s
    | some h => done s (s.table.statusData h)

/-- TAG FIND (R64). -/
def execTagFind (tag : Half) (s : State) : Result :=
  s.onCommand fun s => done s (counted handleByte (s.table.draft.tagged tag))

/-- A new generation from DRAFT in STAGED; a snapshot staged before is superseded (R79). -/
def Table.publish (t : Table) : Table :=
  { t with
    register := t.register + 1
    superseded := if t.staged.isSome then Count.bump t.superseded else t.superseded
    staged := some ⟨t.register + 1, t.draft⟩ }

/-- TABLE PUBLISH (R79). -/
def execTablePublish (s : State) : Result :=
  s.onCommand fun s =>
    let t := s.table.publish
    done { s with table := t } (genBytes t.register)

/-- DRAFT REVERT (R62). -/
def execDraftRevert (s : State) : Result :=
  s.onCommand fun s =>
    let p := s.table.revertSource
    done (s.setDraft p.view) (genBytes p.gen)

end Sys2Proof.Machine
end

