-- ==== Sys2Proof/Machine/Compose.lean ====
section
/-! DEFINITION. The Composition Unit: placement resolution, fit, span split, Reflow List, handover and layer stacks, and
its read commands (chapters 5 and 6). -/

namespace Sys2Proof.Machine

/-! ## What a composition reads (R89) -/

/-- SHOWN, the posture in force with its profile, and the panel states, as they stand at the output frame start. -/
structure Scene where
  shown : Published
  posture : Option Posture
  profile : Option Profile
  stateA : PanelState
  stateB : PanelState
deriving DecidableEq, Repr

def State.scene (s : State) : Scene :=
  { shown := s.table.shown
    posture := s.posture.posture
    profile := s.posture.posture.map s.posture.profile
    stateA := s.panelA.state
    stateB := s.panelB.state }

def Scene.stateOf (sc : Scene) : Panel → PanelState
  | .a => sc.stateA
  | .b => sc.stateB

/-- live(X) (R90). -/
def Scene.live (sc : Scene) (x : Panel) : Bool := sc.stateOf x = .live

/-- Whether the profile read allows span. -/
def Scene.spanAllowed (sc : Scene) : Bool := match sc.profile with | some p => p.spanAllowed | none => false

/-! ## Kind and target (R91 to R93) -/

/-- Whether a posture is in an entry's visibility set (R49). -/
def Entry.visibleIn (e : Entry) (p : Posture) : Bool := e.visibility.getLsbD p.number

/-- What the tests of R91 give: a kind with a target, or NONE for a reason. -/
inductive Choice where
  | none (r : Reason)
  | span (at_ : Point)
  | home
  | guest
deriving DecidableEq, Repr

/-- The tests of R91, the first that holds giving the kind. -/
def Scene.choose (sc : Scene) (e : Entry) : Choice :=
  match sc.posture with
  | none => .none .unsettled
  | some p =>
    if !e.visibleIn p then .none .notVisible
    else match e.spanAt with
      | some o =>
        if sc.spanAllowed && sc.live .a && sc.live .b then .span o
        else if sc.live e.home then .home
        else if sc.live (otherPanel e.home) then .guest
        else .none .noLivePanel
      | none =>
        if sc.live e.home then .home
        else if sc.live (otherPanel e.home) then .guest
        else .none .noLivePanel

def panelTarget : Panel → Target
  | .a => .panelA
  | .b => .panelB

/-- A target's width (R92); every target is 1680 high. -/
def Target.width : Target → Nat
  | .panelA => 1200
  | .panelB => 1200
  | .span => 2400

/-- Height of every target, of a panel and of the canvas. -/
def targetHeight : Nat := 1680

/-- An extent centred in a room, at 0 when it is larger (R93, R96). -/
def centred (room extent : Nat) : Nat := if extent ≤ room then (room - extent) / 2 else 0

/-- The centred origin of a guest without a guest origin (R93). -/
def centredOrigin (e : Entry) : Point := ⟨centred 1200 e.source.w, centred 1680 e.source.h⟩

/-- The origin taken by a guest (R92). -/
def guestOrigin (e : Entry) : OriginTaken :=
  match e.guestAt with
  | some p => ⟨.guest, p⟩
  | none => ⟨.centred, centredOrigin e⟩

/-! ## Fit (R94 to R97) -/

/-- The requested destination lies inside its target (R94). -/
def fitsTarget (t : Target) (o : Point) (e : Entry) : Bool :=
  o.x + e.source.w ≤ t.width && o.y + e.source.h ≤ targetHeight

/-- The canvas point at which an entry's source begins. -/
def sourceStart (e : Entry) : Point := ⟨e.source.x, e.source.y⟩

/-- The part of the requested destination inside the target (R95). -/
def cropped (t : Target) (o : Point) (e : Entry) : Shown :=
  ⟨⟨⟨o.x, o.y, min e.source.w (t.width - o.x), min e.source.h (targetHeight - o.y)⟩, sourceStart e⟩, 1⟩

/-- The content decimated 2:1 and centred in the target (R96). -/
def halved (t : Target) (e : Entry) : Shown :=
  let hw := (e.source.w + 1) / 2
  let hh := (e.source.h + 1) / 2
  let x := centred t.width hw
  let y := centred targetHeight hh
  ⟨⟨⟨x, y, min hw (t.width - x), min hh (targetHeight - y)⟩, sourceStart e⟩, 2⟩

/-- The fit applied and what is shown, if anything (R94 to R97). -/
def applyFit (t : Target) (o : Point) (e : Entry) : FitApplied × Option Shown :=
  if fitsTarget t o e then (.none, some ⟨⟨⟨o.x, o.y, e.source.w, e.source.h⟩, sourceStart e⟩, 1⟩)
  else match e.fit with
    | .crop => (.crop, some (cropped t o e))
    | .halve => (.halve, some (halved t e))
    | .hide => (.hide, none)

/-! ## Splitting a span placement (R99) -/

/-- The part on panel A of a rectangle shown on the span target. -/
def spanPartA (sh : Shown) : Option Part :=
  let r := sh.part.rect
  if r.x < 1200 then some ⟨⟨r.x, r.y, min (r.x + r.w) 1200 - r.x, r.h⟩, sh.part.start⟩ else none

/-- The part on panel B of a rectangle shown on the span target. -/
def spanPartB (sh : Shown) : Option Part :=
  let r := sh.part.rect
  let left := max r.x 1200
  if 1200 < r.x + r.w then
    some ⟨⟨left - 1200, r.y, r.x + r.w - left, r.h⟩, ⟨sh.part.start.x + sh.step * (left - r.x), sh.part.start.y⟩⟩
  else none

/-! ## Resolution (R89 stage 1, R110) -/

/-- The part that a placement has on panel X: a span is split, another kind has its shown rectangle on its target panel
(R99). -/
def partOn (x : Panel) (t : Target) (sh : Shown) : Option Part :=
  match t, x with
  | .span, .a => spanPartA sh
  | .span, .b => spanPartB sh
  | .panelA, .a => some sh.part
  | .panelB, .b => some sh.part
  | _, _ => none

/-- The record of an entry with a target, before its layers are known (R97, R101, R110). -/
def placedRecord (gen : Gen) (kind : Kind) (t : Target) (o : OriginTaken) (e : Entry) : Record :=
  let f := applyFit t o.at_ e
  { inShown := true
    gen := gen
    kind := if f.1 = .hide then .none else kind
    reason := if f.1 = .hide then some .hiddenByFit else none
    target := some t
    origin := some o
    fit := some f.1
    shown := f.2
    provisional := f.1 ≠ .none
    partA := f.2.bind (partOn .a t)
    partB := f.2.bind (partOn .b t)
    layerA := .notHere
    layerB := .notHere }

/-- An entry's record for a composition, before its layers are known (R91 to R101). -/
def Scene.resolve (sc : Scene) (e : Entry) : Record :=
  match sc.choose e with
  | .none r => { Record.vacant sc.shown.gen with inShown := true, reason := some r }
  | .span o => placedRecord sc.shown.gen .span .span ⟨.span, o⟩ e
  | .home => placedRecord sc.shown.gen .home (panelTarget e.home) ⟨.home, e.homeAt⟩ e
  | .guest => placedRecord sc.shown.gen .guest (panelTarget (otherPanel e.home)) (guestOrigin e) e

/-- The record of a handle before its layers are known; vacant when SHOWN does not hold it (R110). -/
def Scene.recordOf (sc : Scene) (h : Handle) : Record :=
  match sc.shown.view[h] with
  | some e => sc.resolve e
  | none => Record.vacant sc.shown.gen

/-! ## Reflow List (R102 to R104) -/

/-- The handles whose entries are provisional at this composition and that the list does not hold, ascending. -/
def Scene.joins (sc : Scene) (list : List Handle) : List Handle :=
  handles.filter fun h => (sc.recordOf h).provisional && !list.contains h

/-- The list after the departures and the joins. -/
def Scene.reflow (sc : Scene) (list : List Handle) : List Handle :=
  list.filter (fun h => (sc.recordOf h).provisional) ++ sc.joins list

/-! ## Handover (R106, R107) -/

/-- The pair of a record: its kind and its panel set (R100). -/
def Record.pair (r : Record) : PlacementPair := ⟨r.kind, r.partA.isSome, r.partB.isSome⟩

/-- The pair that the memory holds for a handle after this composition. -/
def Scene.pairOf (sc : Scene) (h : Handle) : Option PlacementPair :=
  match sc.shown.view[h] with
  | some e => some (sc.resolve e).pair
  | none => none

/-- A handle that SHOWN holds and the memory holds a pair for has another pair now. -/
def Scene.handedOver (sc : Scene) (memory : Vector (Option PlacementPair) 32) (h : Handle) : Bool :=
  match sc.pairOf h, memory[h] with
  | some now, some before => now ≠ before
  | _, _ => false

/-! ## Layer stacks (R114 to R119) -/

/-- The part of a record on panel X. -/
def Record.part (r : Record) : Panel → Option Part
  | .a => r.partA
  | .b => r.partB

/-- The layer that an entry of SHOWN would take on panel X; none when it is no candidate (R115). -/
def Scene.layerOf (sc : Scene) (x : Panel) (h : Handle) : Option Layer :=
  match sc.shown.view[h] with
  | none => none
  | some e =>
    let r := sc.resolve e
    match r.part x, r.shown with
    | some p, some sh => some ⟨h, e.priority, p, sh.step⟩
    | _, _ => none

/-- The candidates of panel X in the order of R116: priority 7 first, among equals the lower handle first. -/
def Scene.candidates (sc : Scene) (x : Panel) : List Layer :=
  (List.finRange 8).reverse.flatMap fun p =>
    (handles.filterMap (sc.layerOf x)).filter fun l => l.priority = p

/-- Layer slots of a panel. -/
def slotCount : Nat := 6

/-- Whether a settled posture's profile turns panel X. -/
def Profile.turned (p : Profile) : Panel → Bool
  | .a => p.turnedA
  | .b => p.turnedB

/-- The scan context fixed for panel X (R120). -/
def Scene.context (sc : Scene) (x : Panel) : ScanContext :=
  match sc.profile with
  | some p => ⟨sc.shown.gen, p.background, p.turned x, sc.stateOf x⟩
  | none => ⟨sc.shown.gen, Colour.black, false, sc.stateOf x⟩

/-- Stack, starved list, scan context and starved counter of panel X after the composition (R114, R116, R117, R120). -/
def Scene.stack (sc : Scene) (x : Panel) (before : PanelStack) : PanelStack :=
  let c := sc.candidates x
  { stack := c.take slotCount
    starved := (c.drop slotCount).map Layer.handle
    context := sc.context x
    starvedTotal := Count.bumpBy (c.drop slotCount).length before.starvedTotal }

/-- The layer field of a handle on panel X (R116). -/
def Scene.layerField (sc : Scene) (x : Panel) (h : Handle) : LayerField :=
  let order := (sc.candidates x).map Layer.handle
  if order.contains h then
    if n : order.idxOf h < 6 then .slot ⟨order.idxOf h, n⟩ else .starved
  else .notHere

/-- The effective placement record of a handle (R89 stage 5, R110). -/
def Scene.finalRecord (sc : Scene) (h : Handle) : Record :=
  { sc.recordOf h with layerA := sc.layerField .a h, layerB := sc.layerField .b h }

/-- The Composition Unit after a composition (R89). -/
def Composition.after (sc : Scene) (c : Composition) : Composition :=
  { records := Vector.ofFn fun h : Handle => sc.finalRecord h
    reflow := sc.reflow c.reflow
    memory := Vector.ofFn fun h : Handle => sc.pairOf h
    stackA := sc.stack .a c.stackA
    stackB := sc.stack .b c.stackB }

/-- The rows that a frame begun in a panel state carries (R123, R125). -/
def PanelState.frameContent : PanelState → RowContent
  | .live => .layers
  | .idle => .black
  | _ => .off

/-- Layers are enabled for a panel read as LIVE (R125), and a frame begins as its state gives (R123, R124). -/
def PanelUnit.beginFrame (u : PanelUnit) : PanelUnit :=
  { u with layersEnabled := u.state = .live, frameRows := [⟨0, u.state.frameContent⟩] }

/-- One composition, with the REFLOW, HANDOVER and LAYER_OVERFLOW flags it calls for (R89, R104, R106, R117). -/
def State.compose (s : State) : State :=
  let sc := s.scene
  let c := s.comp.after sc
  let t := { s with comp := c, panelA := s.panelA.beginFrame, panelB := s.panelB.beginFrame }
  let t := t.raiseIf (sc.joins s.comp.reflow ≠ []) .reflow
  let t := t.raiseIf (handles.any (sc.handedOver s.comp.memory)) .handover
  t.raiseIf (c.stackA.starved ≠ [] || c.stackB.starved ≠ []) .layerOverflow

/-! ## What the panel links carry (R121 to R124) -/

/-- A layer covers a pixel of the viewer's frame (R121). -/
def Layer.covers (l : Layer) (col row : Nat) : Bool :=
  l.part.rect.x ≤ col && col < l.part.rect.x + l.part.rect.w && l.part.rect.y ≤ row && row < l.part.rect.y + l.part.rect.h

/-- The canvas pixel that a layer shows at a pixel it covers (R121). -/
def Layer.pixel (scan : Bank) (col row : Nat) (l : Layer) : Colour :=
  Bank.pixel scan (l.part.start.x + l.step * (col - l.part.rect.x)) (l.part.start.y + l.step * (row - l.part.rect.y))

/-- The colour of a pixel in the viewer's frame while layers are enabled (R121). -/
def viewerPixel (scan : Bank) (p : PanelStack) (col row : Nat) : Colour :=
  match p.stack.find? (fun l => l.covers col row) with
  | some l => l.pixel scan col row
  | none => p.context.background

/-- Native columns of a panel's frame (R123). -/
def panelColumns : Nat := 1200

/-- What the next row of the running frame would carry. -/
def PanelUnit.linkContent (u : PanelUnit) : RowContent :=
  match u.frameRows with
  | [] => .off
  | g :: _ => g.content

/-- The content of a row of the running frame (R123, R124). -/
def rowContent (rows : List Segment) (row : Nat) : RowContent :=
  match rows.find? (fun g => g.fromRow ≤ row) with
  | some g => g.content
  | none => .off

/-- The pixel that panel X's link carries at a native column and row of the running frame; none without a pixel stream,
and none outside the frame's 1680 rows of 1200 pixels (R122 to R124). -/
def State.linkPixel (s : State) (x : Panel) (col row : Nat) : Option Colour :=
  let p := s.comp.stackOf x
  if panelColumns ≤ col ∨ panelRows ≤ row then none
  else match rowContent (s.panel x).frameRows row with
    | .off => none
    | .black => some Colour.black
    | .background => some p.context.background
    | .layers =>
      some (if p.context.turned then viewerPixel s.frame.scan p (1199 - col) (1679 - row)
        else viewerPixel s.frame.scan p col row)

/-- The panel receives a pixel stream at this moment: its state has one (R123), and the stream has begun and not ended in
the running frame (R124). -/
def PanelUnit.streaming (u : PanelUnit) : Bool := u.state.streams && u.linkContent != .off

/-- The pixel at a native column of the row that panel X's link is sending at this moment; none in blanking, and none
without a pixel stream, which ends at once and in the middle of a row when the panel leaves LIVE and IDLE (R123, R124). -/
def State.linkPixelNow (s : State) (x : Panel) (col : Nat) : Option Colour :=
  match s.sentRow with
  | some row => if (s.panel x).streaming then s.linkPixel x col row else none
  | none => none

/-! ## Read commands -/

def Kind.byte : Kind → List Byte
  | .none => byte1 0
  | .home => byte1 1
  | .guest => byte1 2
  | .span => byte1 3

def Reason.byte : Reason → List Byte
  | .unsettled => byte1 0
  | .notVisible => byte1 1
  | .noLivePanel => byte1 2
  | .hiddenByFit => byte1 3

def Target.byte : Target → List Byte
  | .panelA => byte1 0
  | .panelB => byte1 1
  | .span => byte1 2

/-- The origin taken: its name, then ox and oy (R179). -/
def OriginTaken.bytes (o : OriginTaken) : List Byte :=
  byte1 (match o.kind with | .home => 0 | .guest => 1 | .centred => 2 | .span => 3) ++ pointBytes o.at_

def FitApplied.byte : FitApplied → List Byte
  | .none => byte1 0
  | .crop => byte1 1
  | .halve => byte1 2
  | .hide => byte1 3

/-- A part: x, y, w, h, then its source start. -/
def Part.bytes (p : Part) : List Byte := rectBytes p.rect ++ pointBytes p.start

/-- The layer field: slot 0..5, STARVED 6, NOT ON THIS PANEL 7 (R179). -/
def LayerField.byte : LayerField → List Byte
  | .slot n => byte1 n
  | .starved => byte1 6
  | .notHere => byte1 7

/-- The data of PLACEMENT READ, in the order of R110 (assumptions 13 and 14). -/
def Record.bytes (r : Record) : List Byte :=
  byteOfBool r.inShown ++ genBytes r.gen ++ r.kind.byte ++ optional 1 Reason.byte r.reason ++
  optional 1 Target.byte r.target ++ optional 5 OriginTaken.bytes r.origin ++ optional 1 FitApplied.byte r.fit ++
  optional 8 (fun sh : Shown => rectBytes sh.part.rect) r.shown ++
  optional 5 (fun sh : Shown => pointBytes sh.part.start ++ byte1 sh.step) r.shown ++ byteOfBool r.provisional ++
  optional 12 Part.bytes r.partA ++ optional 12 Part.bytes r.partB ++ r.layerA.byte ++ r.layerB.byte

/-- PLACEMENT READ (R111). -/
def execPlacementRead (handle : Byte) (s : State) : Result :=
  s.onCommand fun s =>
    match handleOfByte handle with
    | none => refuse .range s
    | some h => if s.comp.records[h].inShown then done s s.comp.records[h].bytes else refuse .absent s

/-- REFLOW READ (R105). -/
def execReflowRead (s : State) : Result :=
  s.onCommand fun s => done s (counted handleByte s.comp.reflow ++ genBytes s.comp.stackA.context.gen)

/-- A layer of LAYERS READ: handle, priority, part, source start, step (R127). -/
def Layer.bytes (l : Layer) : List Byte :=
  handleByte l.handle ++ byte1 l.priority ++ l.part.bytes ++ byte1 l.step

/-- The fields of LAYERS READ for one panel, in the order of R127. -/
def layersData (u : PanelUnit) (p : PanelStack) : List Byte :=
  byte1 p.context.panelState.number ++ byteOfBool u.layersEnabled ++ genBytes p.context.gen ++
  colourBytes p.context.background ++ rotationByte p.context.turned ++ counted Layer.bytes p.stack ++
  counted handleByte p.starved ++ countBytes p.starvedTotal

/-- LAYERS READ (R127). -/
def execLayersRead (s : State) : Result :=
  s.onCommand fun s => done s (layersData s.panelA s.comp.stackA ++ layersData s.panelB s.comp.stackB)

end Sys2Proof.Machine
end

