-- ==== Sys2Proof/Machine/Frame.lean ====
section
/-! DEFINITION. The Frame Store: source link and output timing events, and its commands (chapter 4). -/

namespace Sys2Proof.Machine

/-! ## Source link -/

def CaptureBank.isEmpty : CaptureBank → Bool
  | .empty => true
  | _ => false

def CaptureBank.isComplete : CaptureBank → Bool
  | .complete => true
  | _ => false

/-- What a source frame start does to the capture bank (table of R72). -/
def FrameStore.frameStart (f : FrameStore) : FrameStore :=
  match f.captureState with
  | .empty => { f with captureState := .filling 0 false }
  | .filling _ _ => { f with captureState := .filling 0 false, truncated := Count.bump f.truncated }
  | .complete => { f with captureState := .filling 0 false, dropped := Count.bump f.dropped }

/-- SOURCE_FRAME_START: the capture bank, FRAME_LOSS when a frame is lost, and the binding (R72, R80). -/
def execSourceFrameStart (s : State) : Result :=
  s.onEvent fun s =>
    ({ s with frame := s.frame.frameStart, table := s.table.bind }).raiseIf (!s.frame.captureState.isEmpty) .frameLoss

/-- Lines of a well-formed frame, and rows of a bank (R71). -/
def frameLines : Nat := 1680

/-- Pixels of a line of a well-formed frame (R71). -/
def linePixels : Nat := 2400

/-- A line end in a frame in progress (R71). -/
def FrameStore.lineEnd (count : Nat) (pixels : List Colour) (f : FrameStore) : FrameStore :=
  match f.captureState with
  | .filling lines bad =>
    if lines < frameLines then
      { f with
        captureState := .filling (lines + 1) (bad || count ≠ linePixels)
        capture := Bank.storeLine lines count pixels f.capture }
    else { f with captureState := .filling lines true }
  | _ => f

/-- LINE_END (R71). -/
def execLineEnd (count : BitVec 12) (pixels : List Colour) (s : State) : Result :=
  s.onEvent fun s => { s with frame := s.frame.lineEnd count.toNat pixels }

/-- SOURCE_FRAME_END (R73). -/
def execSourceFrameEnd (s : State) : Result :=
  s.onEvent fun s =>
    match s.frame.captureState with
    | .filling lines bad =>
      if lines = frameLines ∧ bad = false then { s with frame := { s.frame with captureState := .complete } }
      else ({ s with frame := { s.frame with
          captureState := .empty, malformed := Count.bump s.frame.malformed } }).raise .frameLoss
    | _ => s

/-! ## Output timing -/

/-- The banks at an output frame start (table of R75). -/
def FrameStore.frameOut (f : FrameStore) : FrameStore :=
  match f.captureState with
  | .complete =>
    { f with scan := f.capture, scanCaptured := true, capture := f.scan, captureState := .empty,
             flips := Count.bump f.flips }
  | .filling _ _ => { f with repeats := Count.bump f.repeats }
  | .empty => f

/-- A period begins at `now`, and FRMREQ pulses when the capture bank is then EMPTY (R69, R76). -/
def FrameStore.beginPeriod (now : Nat) (f : FrameStore) : FrameStore :=
  { f with periodStart := now, frmreq := if f.captureState.isEmpty then some now else none }

/-- The Frame Store's part of an output frame start: the banks, the flip reported to the Placement Table with its SHOWN
flag, and FRMREQ (R75, R76, R82). -/
def State.frameOut (s : State) : State :=
  let flips := s.frame.captureState.isComplete
  let t := { s with frame := (s.frame.frameOut).beginPeriod s.now, table := if flips then s.table.flip else s.table }
  t.raiseIf (flips && s.table.flipShowsNew) .shown

/-- OUTPUT_FRAME_START: the end of blanking for the panel links, the Frame Store's work and one composition (R75, R89,
R170). -/
def execOutputFrameStart (s : State) : Result :=
  s.onEvent fun s =>
    let s := s.reach (s.frame.periodStart + s.frame.rate.period)
    let s := { s with panelA := s.panelA.blankingEnds, panelB := s.panelB.blankingEnds }
    s.frameOut.compose

/-- Length of a FRMREQ pulse in microseconds (R76). -/
def frmreqLength : Nat := 2

/-- FRMREQ_PULSE_END (R76). -/
def execFrmreqPulseEnd (s : State) : Result :=
  s.onEvent fun s =>
    match s.frame.frmreq with
    | some rose => { s with frame := { s.frame with frmreq := none } }.reach (rose + frmreqLength)
    | none => s

/-- OUTPUT_FRAME_END: blanking opens for both panels' waiting transactions (R69, R170). -/
def execOutputFrameEnd (s : State) : Result :=
  s.onEvent fun s =>
    let s := s.reach (s.frame.periodStart + s.frame.rate.active)
    let s := if s.panelA.state.streams then s.onPanel .a PanelWork.blankingOpens else s
    if s.panelB.state.streams then s.onPanel .b PanelWork.blankingOpens else s

/-! ## Commands -/

/-- A panel that lets TIMING SET through: DARK or FAULT (R70). -/
def PanelState.quiet (st : PanelState) : Bool := st = .dark || st = .fault

/-- The running frame of a panel is abandoned with its period: no row of it is under way any more (R70). -/
def PanelUnit.abandonFrame (u : PanelUnit) : PanelUnit := { u with frameRows := [] }

/-- TIMING SET (R70). -/
def execTimingSet (rate : Byte) (s : State) : Result :=
  s.onCommand fun s =>
    match rateOfByte rate with
    | none => refuse .range s
    | some r =>
      if s.panelA.state.quiet && s.panelB.state.quiet then
        done { s with
          frame := { s.frame with rate := r, periodStart := s.now }
          panelA := s.panelA.abandonFrame
          panelB := s.panelB.abandonFrame } []
      else refuse .state s

def FrameRate.byte : FrameRate → List Byte
  | .hz60 => byte1 60
  | .hz90 => byte1 90
  | .hz120 => byte1 120

/-- Capture bank states in the order of R86. -/
def CaptureBank.byte : CaptureBank → List Byte
  | .empty => byte1 0
  | .filling _ _ => byte1 1
  | .complete => byte1 2

def CaptureBank.lines? : CaptureBank → Option Nat
  | .filling n _ => some n
  | _ => none

def CaptureBank.mark? : CaptureBank → Option Bool
  | .filling _ m => some m
  | _ => none

/-- The data of FRAME STATUS, in the order of R86. -/
def State.frameStatusData (s : State) : List Byte :=
  s.frame.rate.byte ++ s.frame.captureState.byte ++ optional 2 byte2 s.frame.captureState.lines? ++
  optional 1 byteOfBool s.frame.captureState.mark? ++ byte1 (if s.frame.scanCaptured then 1 else 0) ++
  genBytes s.table.shown.gen ++ genBytes s.table.capture.gen ++
  optional 4 (fun p : Published => genBytes p.gen) s.table.staged ++ genBytes s.table.register ++
  countBytes s.table.superseded ++ countBytes s.frame.flips ++ countBytes s.frame.repeats ++
  countBytes s.frame.dropped ++ countBytes s.frame.truncated ++ countBytes s.frame.malformed

/-- FRAME STATUS (R86). -/
def execFrameStatus (s : State) : Result :=
  s.onCommand fun s => done s s.frameStatusData

end Sys2Proof.Machine
end

