-- ==== Sys2Proof/Machine/Panels.lean ====
section
/-! DEFINITION. Events and commands of the Panel Controllers and their Script Engines (chapters 7 and 8). -/

namespace Sys2Proof.Machine

/-! ## Moments a panel waits for (assumption 2) -/

/-- The moment the running reply window ends, 2 ms after the end of the command packet (R161). -/
def PanelUnit.replyDue (u : PanelUnit) : Option Nat :=
  match u.run with
  | some r => match r.phase with | .awaitReply packetEnds _ => some (packetEnds + ms 2) | _ => none
  | none => none

/-- The moment the WAIT under way ends (R166). -/
def PanelUnit.waitDue (u : PanelUnit) : Option Nat :=
  match u.run with
  | some r => match r.phase with | .waiting endsAt => some endsAt | _ => none
  | none => none

/-- The moment the next read of the POLL under way falls due (R165). -/
def PanelUnit.pollDue (u : PanelUnit) : Option Nat :=
  match u.run with
  | some r => match r.phase with | .pollGap dueAt => some dueAt | _ => none
  | none => none

/-- The moment the timeout of the POLL under way passes (R165). -/
def PanelUnit.pollDeadline (steps : Vector Step 256) (u : PanelUnit) : Option Nat :=
  match u.run with
  | some r => match steps[r.index].body with | .poll _ _ _ timeout => some (r.pollBegan + ms timeout) | _ => none
  | none => none

/-- The moment the linger timer expires (R137). -/
def PanelUnit.lingerDue (u : PanelUnit) : Option Nat :=
  match u.linger with
  | .running expiresAt => some expiresAt
  | _ => none

/-- A timed event at panel X: nothing when its timer is not running (assumption 4), else the clock stands at the
moment it fell due and the work is done. -/
def State.onPanelDue (x : Panel) (due : Option Nat) (work : PanelEnv → PanelWork → PanelWork) (s : State) : State :=
  match due with
  | none => s
  | some t => (s.reach t).onPanel x work

/-! ## Events of the Script Engines -/

/-- PANEL_LINK_REPLY (R161 to R165). -/
def execPanelLinkReply (x : Panel) (packet : List Byte) (s : State) : Result :=
  s.onEvent fun s => s.onPanel x fun env w => w.linkPacketArrives env packet

/-- REPLY_TIMEOUT (R161). -/
def execReplyTimeout (x : Panel) (s : State) : Result :=
  s.onEvent fun s => s.onPanelDue x (s.panel x).replyDue PanelWork.replyTimesOut

/-- WAIT_END (R166). -/
def execWaitEnd (x : Panel) (s : State) : Result :=
  s.onEvent fun s => s.onPanelDue x (s.panel x).waitDue PanelWork.waitEnds

/-- POLL_READ_DUE (R165). -/
def execPollReadDue (x : Panel) (s : State) : Result :=
  s.onEvent fun s => s.onPanelDue x (s.panel x).pollDue PanelWork.pollReadFallsDue

/-- POLL_TIMEOUT (R165). -/
def execPollTimeout (x : Panel) (s : State) : Result :=
  s.onEvent fun s => s.onPanelDue x ((s.panel x).pollDeadline s.scripts.steps) PanelWork.pollTimesOut

/-! ## Events of the Panel Controllers -/

/-- The level of a panel's attention line, an input that stands through resets (R141, R152). -/
def State.setAttentionLine (x : Panel) (asserted : Bool) (s : State) : State :=
  s.setPanel x { s.panel x with attentionLine := asserted }

/-- ATTENTION: the line is asserted; a change from released is an attention (R141). While RESETN is low it makes none. -/
def execAttention (x : Panel) (s : State) : Result :=
  if s.inReset || (s.panel x).attentionLine then .next (s.setAttentionLine x true)
  else .next ((s.setAttentionLine x true).onPanel x PanelWork.attend)

/-- ATTENTION_LINE_RELEASE: the line is released, and its next assertion makes a new attention (R141). -/
def execAttentionLineRelease (x : Panel) (s : State) : Result :=
  .next (s.setAttentionLine x false)

/-- LINGER_EXPIRY (R137). -/
def execLingerExpiry (x : Panel) (s : State) : Result :=
  s.onEvent fun s => s.onPanelDue x (s.panel x).lingerDue PanelWork.lingerExpires

/-- The recovery window closes: the count becomes 0 and the window absent, in every panel state (R143). -/
def PanelWork.closeWindow (w : PanelWork) : PanelWork :=
  { w with unit := { w.unit with recoveryCount := 0, recoveryWindow := none } }

/-- RECOVERY_WINDOW_CLOSE (R143). -/
def execRecoveryWindowClose (x : Panel) (s : State) : Result :=
  s.onEvent fun s => s.onPanelDue x (s.panel x).recoveryWindow fun _ w => w.closeWindow

/-! ## Commands -/

/-- PANEL RESTART (R147): STARTED when a WAKE run was started from a present slot, else DONE (assumption 15). -/
def execPanelRestart (panel : Byte) (s : State) : Result :=
  s.onCommand fun s =>
    match panelOfByte panel with
    | none => refuse .range s
    | some x =>
      if (s.panel x).state = .fault then
        (s.onPanel x PanelWork.restart,
          Reply.bare (if (s.panel x).wantedIn && (s.scripts.slots x).wake.isSome then .started else .done))
      else refuse .state s

/-- PANEL STOP (R148). -/
def execPanelStop (panel : Byte) (s : State) : Result :=
  s.onCommand fun s =>
    match panelOfByte panel with
    | none => refuse .range s
    | some x => if (s.panel x).state = .fault then done s [] else done (s.onPanel x PanelWork.stop) []

/-- PANEL CHECK (R149): STARTED when the CHECK slot is present, else the run completed at once (assumption 15). -/
def execPanelCheck (panel : Byte) (s : State) : Result :=
  s.onCommand fun s =>
    match panelOfByte panel with
    | none => refuse .range s
    | some x =>
      if !(s.panel x).state.streams then refuse .state s
      else if (s.panel x).run.isSome then refuse .busy s
      else
        (s.onPanel x PanelWork.askCheck,
          Reply.bare (if (s.scripts.slots x).check.isSome then .started else .done))

/-- PANEL CONFIG (R139). -/
def execPanelConfig (linger : Half) (s : State) : Result :=
  s.onCommand fun s =>
    let l := clamp 0 10000 linger.toNat
    done { s with lingerTime := l } (byte2 l)

/-- Whole milliseconds left until a moment, a part of one counting as one (assumption 10). -/
def msLeft (now due : Nat) : Nat := (due - now + 999) / 1000

/-- The linger timer: its state, then the time to expiry (R150, R179). -/
def lingerBytes (now : Nat) : Linger → List Byte
  | .absent => byte1 0 ++ byte2 0
  | .running t => byte1 1 ++ byte2 (msLeft now t)
  | .held => byte1 2 ++ byte2 0

def FaultKind.byte : FaultKind → List Byte
  | .script => byte1 0
  | .recoveryLimit => byte1 1
  | .stopped => byte1 2

/-- The state left, in the order of R145; FAULT is never left into FAULT. -/
def stateLeftByte : PanelState → List Byte
  | .waking => byte1 0
  | .live => byte1 1
  | .idle => byte1 2
  | .sleeping => byte1 3
  | .dark => byte1 4
  | .fault => byte1 5

/-- A panel-reported error set in one byte. -/
def errorSetByte (e : BitVec 4) : List Byte := byte1 e.toNat

/-- The fields of the fault record, in the order of R145 (assumption 14). -/
def FaultRecord.bytes (f : FaultRecord) : List Byte :=
  f.kind.byte ++ stateLeftByte f.left ++
  optional 1 (fun t : ScriptSlot × StepIndex × StepKind => slotByte t.1) f.step ++
  optional 1 (fun t : ScriptSlot × StepIndex × StepKind => byte1 t.2.1) f.step ++
  optional 1 (fun t : ScriptSlot × StepIndex × StepKind => byte1 t.2.2.number) f.step ++
  optional 1 (fun e : StepError => byte1 e.number) f.error ++
  optional 1 errorSetByte (f.error.bind StepError.reportedSet)

/-- The last tolerated error: slot, step index, step kind, step error, error set (R150). -/
def StepFailure.bytes (f : StepFailure) : List Byte :=
  slotByte f.slot ++ byte1 f.index ++ byte1 f.kind.number ++ byte1 f.error.number ++
  optional 1 errorSetByte f.error.reportedSet

/-- The data of PANEL READ, in the order of R150. -/
def panelData (now lingerTime : Nat) (u : PanelUnit) : List Byte :=
  byte1 u.state.number ++ onOffByte u.demandIn ++ byteOfBool u.wantedIn ++
  optional 2 (fun r : Run => slotByte r.slot ++ byte1 r.index) u.run ++
  lingerBytes now u.linger ++ byte2 lingerTime ++ byteOfBool u.latched ++ byte1 u.recoveryCount ++
  optional 2 (fun t => byte2 (max 1 (msLeft now t))) u.recoveryWindow ++
  optional 12 FaultRecord.bytes u.faultRecord ++ optional 6 StepFailure.bytes u.tolerated ++
  assertedByte u.resetAsserted ++ assertedByte u.powerAsserted ++
  countBytes u.attentions ++ countBytes u.recoveries ++ countBytes u.faultEntries

/-- PANEL READ (R150). -/
def execPanelRead (panel : Byte) (s : State) : Result :=
  s.onCommand fun s =>
    match panelOfByte panel with
    | none => refuse .range s
    | some x => done s (panelData s.now s.lingerTime (s.panel x))

end Sys2Proof.Machine
end

