-- ==== Sys2Proof/Machine/Scripts.lean ====
section
/-! DEFINITION. The commands of Script Memory (chapter 8). -/

namespace Sys2Proof.Machine

/-- Every step of a list, when each is one (R156). -/
def stepsOf : List RawStep → Option (List Step)
  | [] => some []
  | r :: rs =>
    match stepOf r, stepsOf rs with
    | some st, some sts => some (st :: sts)
    | _, _ => none

/-- The steps from `start` on become those of the list (R156). -/
def writeSteps (start : Nat) (new : List Step) (mem : Vector Step 256) : Vector Step 256 :=
  Vector.ofFn fun i : StepIndex =>
    if start ≤ i.val then new.getD (i.val - start) mem[i] else mem[i]

/-- SCRIPT WRITE: values first, then runs in flight (R156). -/
def execScriptWrite (start : Byte) (steps : List RawStep) (s : State) : Result :=
  s.onCommand fun s =>
    match stepsOf steps with
    | none => refuse .range s
    | some new =>
      if new = [] ∨ 4 < new.length ∨ 256 < start.toNat + new.length then refuse .range s
      else if s.runInFlight then refuse .busy s
      else done { s with scripts := { s.scripts with steps := writeSteps start.toNat new s.scripts.steps } } []

/-- An entry of the slot table: a present byte and an index. -/
def slotEntryBytes : Option StepIndex → List Byte := optional 1 (fun i : StepIndex => byte1 i)

def Slots.bytes (t : Slots) : List Byte := slotEntryBytes t.wake ++ slotEntryBytes t.sleep ++ slotEntryBytes t.check

/-- The steps at `count` indices from `start`, each as its index followed by its 14 bytes (R179). -/
def stepsData (mem : Vector Step 256) (start count : Nat) : List Byte :=
  (List.range count).flatMap fun i =>
    if h : start + i < 256 then byte1 (start + i) ++ (mem[start + i]).bytes else []

/-- SCRIPT READ (R158): the steps asked for, their number being the count of the command, then the six slot entries. -/
def execScriptRead (start count : Byte) (s : State) : Result :=
  s.onCommand fun s =>
    if count.toNat = 0 ∨ 4 < count.toNat ∨ 256 < start.toNat + count.toNat then refuse .range s
    else done s (stepsData s.scripts.steps start.toNat count.toNat ++ s.scripts.slotsA.bytes ++ s.scripts.slotsB.bytes)

/-- SLOT SET: values first, then runs in flight (R157). -/
def execSlotSet (panel slot present index : Byte) (s : State) : Result :=
  s.onCommand fun s =>
    match panelOfByte panel, slotOfByte slot, boolOfByte present with
    | some x, some sl, some p =>
      if s.runInFlight then refuse .busy s
      else done { s with scripts := s.scripts.setSlot x sl (if p then some (indexOfByte index) else none) } []
    | _, _, _ => refuse .range s

end Sys2Proof.Machine
end

