-- ==== Sys2Proof/Machine/Port.lean ====
section
/-! DEFINITION. The Command Port: link errors, REPLY READ, notifications, identification, pin reset and soft reset
(chapter 9). -/

namespace Sys2Proof.Machine

/-! ## Transactions -/

/-- COMMAND_LINK_ERROR: the packet is ignored and its error joins the report (R174). While RESETN is low or the start-up
window is open the transaction is ignored whole (R189). SDO is low throughout (R173, R189). -/
def execCommandLinkError (bytes : List Byte) (s : State) : Result :=
  .next (match linkErrorOf bytes with
    | some e => (if s.portOpen then { s with port := s.port.addLinkError e } else s).droveLow
    | none => s)

/-- The bytes that a REPLY READ drives on SDO after the kind byte, check byte last (R177, R179). -/
def Port.replyBytes (p : Port) : List Byte :=
  let r := p.reply.getD (Reply.bare .none)
  let covered := r.status.code :: byte2 p.linkErrors.toNat ++ byte2 r.data.length ++ r.data
  covered ++ [crc8 covered]

/-- What SDO carries over `n` bytes: the reply's bytes, then 0x00 (R177). -/
def sdoBytes (reply : List Byte) (n : Nat) : List Byte := reply.take n ++ List.replicate (n - reply.length) 0#8

/-- What SDO carries at a byte position of the latest transaction, the kind byte at position 0 (R173, R177): with CSN high
it is not driven (none); in a COMMAND and in the kind byte of a REPLY READ it is low, and so it is after the bytes of a
REPLY READ that a fall of RESETN has cut short (R195). -/
def SdoDrive.carries (csnHigh : Bool) (position : Nat) (d : SdoDrive) : Option Byte :=
  if csnHigh then none
  else match d with
    | .undriven => none
    | .low => some 0#8
    | .reply bytes => some (match position with | 0 => 0#8 | k + 1 => bytes.getD k 0#8)

/-- REPLY_READ: the held reply and the report are driven on SDO; a read whose check byte was clocked out whole marks the
reply read and empties the report (R177). One that the fall of RESETN cuts short is taken at the fall, before the PIN_RESET,
with the bytes clocked until then, and SDO is low from there on (R195, assumption 6). One whose CSN falls while the port is
closed has SDO low throughout (R189). -/
def execReplyRead (clocked : Nat) (s : State) : Result :=
  .next (
    if s.portOpen then
      let bytes := s.port.replyBytes
      let p := { s.port with sdo := .reply (sdoBytes bytes clocked) }
      { s with port := if bytes.length ≤ clocked then { p with replyRead := true, linkErrors := 0 } else p }
    else s.droveLow)

/-- START_UP_WINDOW_CLOSE (R189). -/
def execStartUpWindowClose (s : State) : Result :=
  s.onEvent fun s =>
    match s.port.startUpCloses with
    | some t => { s with port := { s.port with startUpCloses := none } }.reach t
    | none => s

/-! ## Pin reset and soft reset -/

/-- Every block in its pin reset state, RESETN low (R189); the clock, the queue, the levels of the attention lines, the
straps of the latest release and Script Memory's own pin reset value (R172) as the rules give. What a transaction that the
fall of RESETN cuts short drove on SDO before it stands, and SDO is low after it (R195). -/
def State.pinReset (s : State) : State :=
  { State.reset with
    pending := s.pending
    now := s.now
    shortPulses := s.shortPulses
    posture := PostureUnit.reset s.port.straps.leadsel
    frame := FrameStore.reset s.now
    panelA := s.panelA.afterReset s.now
    panelB := s.panelB.afterReset s.now
    port := { Port.reset s.port.straps with sdo := s.port.sdo } }

/-- PIN_RESET: a low pulse on RESETN judged by its length: below 2 µs ignored, from 10 µs a pin reset, in between either,
by a free choice (R189, assumption 3). -/
def execPinReset (lowNs : Nat) (s : State) : Result :=
  .next (
    if lowNs < 2000 then s
    else if lowNs < 10000 then
      let t := { s with shortPulses := s.shortPulses + 1 }
      if Config.shortPulseResets s.shortPulses then t.pinReset else t
    else s.pinReset)

/-- Length of the start-up window in milliseconds (R189). -/
def startUpWindow : Nat := 2

/-- RESETN_RELEASE: the part leaves reset, the straps are sampled, the sample intervals and output periods begin and the
start-up window opens (R189, R190). The rising edge of an ignored pulse does nothing. -/
def execResetnRelease (straps : Straps) (s : State) : Result :=
  .next (
    if s.inReset then
      { s with
        inReset := false
        hinge := { s.hinge with nextSampleAt := s.now + ms s.hinge.interval }
        posture := { s.posture with lead := leadOf straps.leadsel }
        frame := { s.frame with periodStart := s.now }
        port := { s.port with straps := straps, startUpCloses := some (s.now + ms startUpWindow) } }
    else s)

/-- The Hinge Unit's soft reset: the zeros are kept, and the next sample comes one interval later (R1, R24). -/
def Hinge.softReset (now : Nat) (h : Hinge) : Hinge :=
  { Hinge.reset with
    left := { PivotState.reset with zero := h.left.zero }
    right := { PivotState.reset with zero := h.right.zero }
    nextSampleAt := now + ms Hinge.reset.interval }

/-- The Command Port's soft reset: flags, enables and report cleared, the straps kept, no start-up window (R191, R194). -/
def Port.softReset (p : Port) : Port := Port.reset p.straps

/-- Every block's soft reset (R191): the zeros, the straps, Script Memory and the slot table are kept. -/
def State.softReset (s : State) : State :=
  { s with
    hinge := s.hinge.softReset s.now
    posture := PostureUnit.reset s.port.straps.leadsel
    table := Table.reset
    frame := FrameStore.reset s.now
    comp := Composition.reset
    panelA := s.panelA.afterReset s.now
    panelB := s.panelB.afterReset s.now
    lingerTime := State.reset.lingerTime
    port := s.port.softReset }

/-- SOFT RESET: the reply DONE, with no data, becomes the held reply, marked not read (R191, R194). -/
def execSoftReset (s : State) : Result :=
  s.onCommand fun s => done s.softReset []

/-! ## Identification and notifications -/

/-- Part code and revision (R188). -/
def partCode : Nat := 0x2416
def revision : Nat := 1

/-- The strap levels as a set: POLA, POLB, LEADSEL in bits 0 to 2 (R188). -/
def Straps.byte (p : Straps) : List Byte :=
  byte1 ((if p.pola then 1 else 0) + (if p.polb then 2 else 0) + (if p.leadsel then 4 else 0))

/-- IDENTIFY (R188). -/
def execIdentify (s : State) : Result :=
  s.onCommand fun s => done s (byte2 partCode ++ byte1 revision ++ Straps.byte s.port.straps)

/-- A flag set in two bytes. -/
def flagBytes (f : BitVec 10) : List Byte := byte2 f.toNat

/-- NOTIFY READ (R184). -/
def execNotifyRead (s : State) : Result :=
  s.onCommand fun s => done s (flagBytes s.port.flags ++ flagBytes s.port.enables ++ assertedByte s.port.alert)

/-- NOTIFY ENABLE (R185). -/
def execNotifyEnable (value mask : Half) (s : State) : Result :=
  s.onCommand fun s =>
    match flagSet mask with
    | none => refuse .range s
    | some m =>
      let e := enablesAfter s.port.enables (value.setWidth 10) m
      done { s with port := { s.port with enables := e } } (flagBytes e)

/-- NOTIFY CLEAR (R186). -/
def execNotifyClear (mask : Half) (s : State) : Result :=
  s.onCommand fun s =>
    match flagSet mask with
    | none => refuse .range s
    | some m =>
      let f := flagsAfterClear s.port.flags m
      done { s with port := { s.port with flags := f } } (flagBytes f)

end Sys2Proof.Machine
end

