-- ==== Sys2Proof/Machine/Dispatch.lean ====
section
/-! DEFINITION. The dispatch: one arm per command, each one direct call of its meaning. -/

namespace Sys2Proof.Machine

/-- A command's effect on everything but the queue. -/
def exec (i : Instr) (s : State) : Host.Outcome State Fault Refusal :=
  match i with
  | .sampleIntervalExpiry => Sys2Proof.Machine.execSampleIntervalExpiry s
  | .sensorReply p raw fieldOk => Sys2Proof.Machine.execSensorReply p raw fieldOk s
  | .sensorReadTimeout p => Sys2Proof.Machine.execSensorReadTimeout p s
  | .sourceFrameStart => Sys2Proof.Machine.execSourceFrameStart s
  | .lineEnd count pixels => Sys2Proof.Machine.execLineEnd count pixels s
  | .sourceFrameEnd => Sys2Proof.Machine.execSourceFrameEnd s
  | .outputFrameStart => Sys2Proof.Machine.execOutputFrameStart s
  | .frmreqPulseEnd => Sys2Proof.Machine.execFrmreqPulseEnd s
  | .outputFrameEnd => Sys2Proof.Machine.execOutputFrameEnd s
  | .panelLinkReply x packet => Sys2Proof.Machine.execPanelLinkReply x packet s
  | .replyTimeout x => Sys2Proof.Machine.execReplyTimeout x s
  | .waitEnd x => Sys2Proof.Machine.execWaitEnd x s
  | .pollReadDue x => Sys2Proof.Machine.execPollReadDue x s
  | .pollTimeout x => Sys2Proof.Machine.execPollTimeout x s
  | .attention x => Sys2Proof.Machine.execAttention x s
  | .lingerExpiry x => Sys2Proof.Machine.execLingerExpiry x s
  | .recoveryWindowClose x => Sys2Proof.Machine.execRecoveryWindowClose x s
  | .commandLinkError bytes => Sys2Proof.Machine.execCommandLinkError bytes s
  | .replyRead clocked => Sys2Proof.Machine.execReplyRead clocked s
  | .startUpWindowClose => Sys2Proof.Machine.execStartUpWindowClose s
  | .pinReset lowNs => Sys2Proof.Machine.execPinReset lowNs s
  | .resetnRelease straps => Sys2Proof.Machine.execResetnRelease straps s
  | .identify => Sys2Proof.Machine.execIdentify s
  | .softReset => Sys2Proof.Machine.execSoftReset s
  | .notifyRead => Sys2Proof.Machine.execNotifyRead s
  | .notifyEnable value mask => Sys2Proof.Machine.execNotifyEnable value mask s
  | .notifyClear mask => Sys2Proof.Machine.execNotifyClear mask s
  | .hingeConfig interval shift skewLimit => Sys2Proof.Machine.execHingeConfig interval shift skewLimit s
  | .hingeRead => Sys2Proof.Machine.execHingeRead s
  | .zeroWrite zeroL zeroR => Sys2Proof.Machine.execZeroWrite zeroL zeroR s
  | .zeroCapture => Sys2Proof.Machine.execZeroCapture s
  | .zeroRead => Sys2Proof.Machine.execZeroRead s
  | .zonesWrite b1 b2 b3 b4 b5 => Sys2Proof.Machine.execZonesWrite b1 b2 b3 b4 b5 s
  | .zonesRead => Sys2Proof.Machine.execZonesRead s
  | .postureConfig hysteresis dwell margin => Sys2Proof.Machine.execPostureConfig hysteresis dwell margin s
  | .profileWrite posture fields => Sys2Proof.Machine.execProfileWrite posture fields s
  | .profileRead posture => Sys2Proof.Machine.execProfileRead posture s
  | .trackModeTrack => Sys2Proof.Machine.execTrackModeTrack s
  | .trackModeHold => Sys2Proof.Machine.execTrackModeHold s
  | .trackModeForce posture => Sys2Proof.Machine.execTrackModeForce posture s
  | .leadSet panel => Sys2Proof.Machine.execLeadSet panel s
  | .postureRead => Sys2Proof.Machine.execPostureRead s
  | .entryBind fields => Sys2Proof.Machine.execEntryBind fields s
  | .entrySet handle selection fields => Sys2Proof.Machine.execEntrySet handle selection fields s
  | .entryRetire handle => Sys2Proof.Machine.execEntryRetire handle s
  | .tagRetire tag => Sys2Proof.Machine.execTagRetire tag s
  | .entryRead handle view => Sys2Proof.Machine.execEntryRead handle view s
  | .entryStatus handle => Sys2Proof.Machine.execEntryStatus handle s
  | .tagFind tag => Sys2Proof.Machine.execTagFind tag s
  | .tablePublish => Sys2Proof.Machine.execTablePublish s
  | .draftRevert => Sys2Proof.Machine.execDraftRevert s
  | .placementRead handle => Sys2Proof.Machine.execPlacementRead handle s
  | .reflowRead => Sys2Proof.Machine.execReflowRead s
  | .layersRead => Sys2Proof.Machine.execLayersRead s
  | .timingSet rate => Sys2Proof.Machine.execTimingSet rate s
  | .frameStatus => Sys2Proof.Machine.execFrameStatus s
  | .scriptWrite start steps => Sys2Proof.Machine.execScriptWrite start steps s
  | .scriptRead start count => Sys2Proof.Machine.execScriptRead start count s
  | .slotSet panel slot present index => Sys2Proof.Machine.execSlotSet panel slot present index s
  | .panelRestart panel => Sys2Proof.Machine.execPanelRestart panel s
  | .panelStop panel => Sys2Proof.Machine.execPanelStop panel s
  | .panelCheck panel => Sys2Proof.Machine.execPanelCheck panel s
  | .panelRead panel => Sys2Proof.Machine.execPanelRead panel s
  | .panelConfig linger => Sys2Proof.Machine.execPanelConfig linger s
  | .attentionLineRelease x => Sys2Proof.Machine.execAttentionLineRelease x s
  | .trackModeInvalidMode _ _ => Sys2Proof.Machine.execTrackModeInvalidMode s

end Sys2Proof.Machine
end

