-- ==== Sys2Proof/Machine/Receive.lean ====
section
/-! DEFINITION. The host port's side of the queue: a raw SPI transaction joins the waiting commands as the row it is. -/

namespace Sys2Proof.Machine

/-- A transaction of whole bytes between the edges of CSN joins the back of the queue as the row that it is (R173, R174). -/
def State.receive (bytes : List Byte) (s : State) : State :=
  match decodeTransaction bytes with
  | some c => { s with pending := s.pending ++ [c] }
  | none => s

end Sys2Proof.Machine
end

