-- ==== Sys2Proof/Safety.lean ====
section
/-! DEFINITION. What a sound state of the part is, block by block: the invariants that the spec's prose states of the whole
machine, in the terms that statements use. -/

namespace Sys2Proof.Machine

/-! ## Settings and angles (chapters 1 and 2) -/

/-- Every clamped setting lies in its range (R21, R34, R139). -/
def State.SettingsInRange (s : State) : Prop :=
  (5 ≤ s.hinge.interval ∧ s.hinge.interval ≤ 50) ∧ s.hinge.shift ≤ 4 ∧
  (8 ≤ s.hinge.skewLimit ∧ s.hinge.skewLimit ≤ 255) ∧ s.posture.hysteresis ≤ 100 ∧
  (1 ≤ s.posture.dwell ∧ s.posture.dwell ≤ 16) ∧ s.posture.margin ≤ 300 ∧ s.lingerTime ≤ 10000

/-- The boundaries in force, and those pending, are non-decreasing and each lies in 0..3600 (R25, R26). -/
def State.ZonesInOrder (s : State) : Prop :=
  s.posture.zones.valid = true ∧ ∀ z ∈ s.posture.pendingZones, z.valid = true

/-- A share of a zero capture after `n` samples: the sum of `n` offsets, each in −2048..2047 (R17). -/
def CaptureSum.Bounded (n : Nat) (c : CaptureSum) : Prop := -2048 * (n : Int) ≤ c.sum ∧ c.sum ≤ 2047 * (n : Int)

/-- A capture in flight has counted at most 15 samples: the sixteenth ends it (R17, R18). -/
def Capture.Sound : Capture → Prop
  | .started => True
  | .counting n l r => 1 ≤ n ∧ n ≤ 15 ∧ l.Bounded n ∧ r.Bounded n

/-- The accumulator lies in 0..3600 × 256; in FAULTED the fault set is not empty and fewer than 8 clean samples have been
counted (R7, R8, R11 to R13). -/
def AngleTrack.Sound : AngleTrack → Prop
  | .acquiring => True
  | .tracking f => f ≤ 921600
  | .faulted f faults clean => f ≤ 921600 ∧ faults.any = true ∧ clean ≤ 7

/-- The angle of a report, absent in ACQUIRING. -/
def AngleReport.angle? : AngleReport → Option Nat
  | .acquiring => none
  | .tracking a => some a
  | .faulted a => some a

/-- Angles lie in 0..3600, the angle state and the zero capture are sound (R6 to R18). -/
def State.HingeSound (s : State) : Prop :=
  s.hinge.angle.Sound ∧ (∀ a ∈ s.hinge.instant, a ≤ 3600) ∧ (∀ a ∈ s.posture.report.angle?, a ≤ 3600) ∧
  (∀ c ∈ s.hinge.capture, c.Sound)

/-! ## Demand (chapter 2) -/

/-- A dwell under way has counted 1 to 15 samples toward a posture other than the one in force (R33). -/
def State.DwellSound (s : State) : Prop :=
  (∀ d ∈ s.posture.dwelling, 1 ≤ d.count ∧ d.count ≤ 15 ∧ s.posture.posture ≠ some d.candidate) ∧
  (1 ≤ s.posture.dwell ∧ s.posture.dwell ≤ 16)

/-- The demand and pre-demand held are those in force, the delivered pair is the pair in force, and the Panel
Controller's inputs are the delivered pair (R41, R42, R44, R46, R131). -/
def State.DemandInForce (s : State) (x : Panel) : Prop :=
  (s.posture.need x).demand = s.posture.demandOf x ∧ (s.posture.need x).preDemand = s.posture.preDemandOf x ∧
  (s.posture.need x).delivered = (s.posture.need x).pair ∧
  (s.posture.need x).delivered = ⟨(s.panel x).demandIn, (s.panel x).wantedIn⟩

/-- While RESETN is low no posture is in force: the Posture Unit stands in its reset state (R47, R189). -/
def State.ResetHeld (s : State) : Prop := s.inReset = true → s.posture.posture = none

/-! ## Placement Table (chapters 3 and 4) -/

/-- Every entry of a view passes the checks of R51. -/
def View.Valid (v : View) : Prop := ∀ h : Handle, ∀ e ∈ v[h], e.valid = true

/-- Every entry of every view passes the checks of R51. -/
def State.EntriesValid (s : State) : Prop :=
  s.table.draft.Valid ∧ (∀ p ∈ s.table.staged, p.view.Valid) ∧ s.table.capture.view.Valid ∧ s.table.shown.view.Valid

/-- The generation register holds the generation of STAGED or, with STAGED absent, of CAPTURE: the latest publish waits in
the one or has been bound into the other (R79, R80, R83). -/
def State.LatestPublished (s : State) : Prop :=
  s.table.register = match s.table.staged with | some p => p.gen | none => s.table.capture.gen

/-! ## Frame Store (chapter 4) -/

/-- A bank in canonical form, inside the canvas. -/
def Bank.Sound (b : Bank) : Prop := Bank.wf b = true ∧ ∀ e ∈ b, e.1 < 1680 ∧ e.2.length ≤ 2400

/-- Both banks are sound and a frame in progress counts at most 1680 lines (R71). -/
def State.BanksSound (s : State) : Prop :=
  Bank.Sound s.frame.scan ∧ Bank.Sound s.frame.capture ∧ ∀ n ∈ s.frame.captureState.lines?, n ≤ 1680

/-! ## Composition Unit (chapters 5 and 6) -/

/-- The Reflow List holds no handle twice, and exactly the handles of SHOWN whose entries are provisional (R102); each
record tells whether SHOWN holds its handle, under the generation of SHOWN (R110, R111). -/
def State.RecordsSound (s : State) : Prop :=
  s.comp.reflow.Nodup ∧ (∀ h, h ∈ s.comp.reflow ↔ s.comp.records[h].provisional = true) ∧
  (∀ h : Handle, s.comp.records[h].inShown = s.table.shown.view.holds h ∧ s.comp.records[h].gen = s.table.shown.gen ∧
    (s.comp.records[h].provisional = true → s.comp.records[h].inShown = true))

/-- The layer field of a record for panel X. -/
def Record.layer (r : Record) : Panel → LayerField
  | .a => r.layerA
  | .b => r.layerB

/-- The handles with a part on a panel, those with a slot first, in the order of R116. -/
def PanelStack.order (p : PanelStack) : List Handle := p.stack.map Layer.handle ++ p.starved

/-- A panel's stack holds at most six layers and no handle twice, in order of priority; the starved follow it, at most
26, and only behind six layers; all are handles of SHOWN, and the records' layer fields agree (R114, R116, R117). -/
def State.StackSound (s : State) (x : Panel) : Prop :=
  (s.comp.stackOf x).stack.length ≤ 6 ∧ (s.comp.stackOf x).starved.length ≤ 26 ∧ (s.comp.stackOf x).order.Nodup ∧
  ((s.comp.stackOf x).starved ≠ [] → (s.comp.stackOf x).stack.length = 6) ∧
  (∀ h ∈ (s.comp.stackOf x).order, s.table.shown.view.holds h = true) ∧
  (s.comp.stackOf x).stack.Pairwise (fun k l => l.priority < k.priority ∨ (l.priority = k.priority ∧ k.handle < l.handle)) ∧
  (∀ (h : Handle) (n : Fin 6), s.comp.records[h].layer x = .slot n ↔ ((s.comp.stackOf x).stack.map Layer.handle)[n.val]? = some h) ∧
  (∀ h : Handle, s.comp.records[h].layer x = .starved ↔ h ∈ (s.comp.stackOf x).starved)

/-! ## Panel Controllers (chapters 6 to 8) -/

/-- The script run of each panel state (table of 7.2), with 1 to 512 steps begun (R160, R168). -/
def PanelUnit.runSound (u : PanelUnit) : Bool :=
  (match u.run with | some r => 1 ≤ r.count && r.count ≤ 512 | none => true) &&
  match u.state, u.run with
  | .waking, some r => r.slot = .wake
  | .sleeping, some r => r.slot = .sleep
  | .live, none => true
  | .idle, none => true
  | .live, some r => r.slot = .check
  | .idle, some r => r.slot = .check
  | .dark, none => true
  | .fault, none => true
  | _, _ => false

/-- The linger timer runs in IDLE alone, exactly while the panel is not wanted, and is held only while a run is in
flight (R136, R137). -/
def PanelUnit.lingerSound (u : PanelUnit) : Bool :=
  match u.state with
  | .idle => (u.linger = .absent) = u.wantedIn && (u.linger != .held || u.run.isSome)
  | _ => u.linger = .absent

/-- The fault record is present exactly in FAULT, with its fields by kind, and there the lines stand as R144 sets them
(R144 to R147). -/
def PanelUnit.faultSound (u : PanelUnit) : Bool :=
  match u.state, u.faultRecord with
  | .fault, some f =>
    u.resetAsserted && !u.powerAsserted && f.left != .fault &&
      (match f.kind with
       | .script => f.step.isSome && f.error.isSome
       | .recoveryLimit => f.step.isSome && f.error.isSome
       | .stopped => f.error.isNone)
  | .fault, none => false
  | _, some _ => false
  | _, none => true

/-- The inputs agree with the state: a demanded panel is wanted, LIVE is demanded, IDLE is not, DARK is not wanted
(R44, R133, R135, R136). -/
def PanelUnit.inputSound (u : PanelUnit) : Bool :=
  (!u.demandIn || u.wantedIn) &&
  match u.state with
  | .live => u.demandIn
  | .idle => !u.demandIn
  | .dark => !u.wantedIn
  | _ => true

/-- An attention is latched only during a WAKE or SLEEP run; the recovery count is 1 to 3 while a window runs, and 3 only
in FAULT (R141 to R143). -/
def PanelUnit.serviceSound (u : PanelUnit) : Bool :=
  (!u.latched || u.state = .waking || u.state = .sleeping) &&
  (u.recoveryWindow.isSome == decide (0 < u.recoveryCount)) && u.recoveryCount ≤ 3 &&
  (u.recoveryCount != 3 || u.state = .fault)

/-- The rows to come follow the panel state and layers enabled (R123 to R125); a panel without a pixel stream carries
none, and a stream that begins does so at the next output frame start. -/
def PanelUnit.streamSound (u : PanelUnit) : Bool :=
  match u.state with
  | .live => if u.layersEnabled then u.linkContent = .layers else u.linkContent = .background || u.linkContent = .off
  | .idle => !u.layersEnabled && (u.linkContent = .black || u.linkContent = .off)
  | _ => !u.layersEnabled && u.linkContent = .off

/-- A panel in a sound state. -/
def PanelUnit.Sound (u : PanelUnit) : Prop :=
  u.runSound = true ∧ u.lingerSound = true ∧ u.faultSound = true ∧ u.inputSound = true ∧ u.serviceSound = true ∧
  u.streamSound = true

/-- Both panels in sound states. -/
def State.PanelsSound (s : State) : Prop := s.panelA.Sound ∧ s.panelB.Sound

/-! ## Notions for statements -/

/-- A row that the host sends as a COMMAND packet (R181). -/
def isHostCommand (i : Instr) : Bool := (commandBytes i).isSome

/-- The read commands that answer DONE in every state (R20, R22, R28, R46, R64, R86, R105, R127, R184, R188). -/
def isPlainRead (i : Instr) : Bool :=
  i = .identify ∨ i = .notifyRead ∨ i = .hingeRead ∨ i = .zeroRead ∨ i = .zonesRead ∨ i = .postureRead ∨
  i = .reflowRead ∨ i = .layersRead ∨ i = .frameStatus

/-- The event does not happen while RESETN is low: every row but the changes of the input pins, the clocking of SDO and
the edges of RESETN (R189). -/
def heldInReset (i : Instr) : Bool :=
  match i with
  | .attention _ => false
  | .attentionLineRelease _ => false
  | .replyRead _ => false
  | .pinReset _ => false
  | .resetnRelease _ => false
  | _ => true

/-- The pivot other than the given one. -/
def otherPivot : Pivot → Pivot
  | .left => .right
  | .right => .left

/-- A pivot's measurement state. -/
def Hinge.pivot (h : Hinge) : Pivot → PivotState
  | .left => h.left
  | .right => h.right

/-- The panel and its flag after a change event, with every run that it asks for started. -/
def PanelUnit.changed (env : PanelEnv) (pair : Want) (u : PanelUnit) : PanelWork :=
  ((⟨u, false, none⟩ : PanelWork).change env pair).settle env 8

/-- What becomes of panel X when its pair goes from the one last delivered to another: nothing when they are equal, else it
takes one change event, and its PANEL flag follows (R44, R131, R151). -/
def State.eventWork (s : State) (x : Panel) (last pair : Want) : PanelWork :=
  if pair = last then ⟨s.panel x, false, none⟩ else (s.panel x).changed (s.panelEnv x) pair

/-- What becomes of panel X when posture work leaves its pair as in `t` (R44). -/
def State.delivered (s t : State) (x : Panel) : PanelWork :=
  s.eventWork x (s.posture.need x).delivered (t.posture.need x).pair

/-- `t` differs from `s` in the Posture Unit, the Panel Controllers and the notification flags at most: each panel's
pre-demand and delivered pair are those in force (R43, R44), a panel whose pair changed has taken its one change event and
the other is kept (R44, R131), POSTURE is set when the posture changed (R29, R36), PANEL as the change event gives, and no
other flag moves. -/
def State.PostureWorkOnly (s t : State) : Prop :=
  t = { s with
    posture := t.posture, panelA := t.panelA, panelB := t.panelB, port := { s.port with flags := t.port.flags } } ∧
  (∀ x, (t.posture.need x).preDemand = t.posture.preDemandOf x ∧ (t.posture.need x).delivered = (t.posture.need x).pair ∧
    t.panel x = (s.delivered t x).unit) ∧
  ∀ g, t.flagged g = true ↔ s.flagged g = true ∨
    (g = .posture ∧ t.posture.posture ≠ s.posture.posture) ∨ (∃ x, g = panelFlag x ∧ (s.delivered t x).notify = true)

/-- What a sample completion leaves of the part. Of the Hinge Unit: the pivots' readings and miss counts (R3), the sample
counted (R2), the settings kept, ANGLE_FAULT and CAL_DONE as its work gives. Of the Posture Unit, in the order of R29: the
angle handed over (R14), a pending zone table in force (R27), posture and dwell as evaluation leaves them (R30 to R33), the
demands resolved by them (R41), settings, mode, lead panel and profiles kept; then the change events. Nothing else of the
part is touched. -/
def State.CompletesTo (sm : Sample) (s t : State) : Prop :=
  let w := s.hinge.complete s.port.straps sm
  let u := ({ s.posture with report := t.hinge.angle.report }).takePendingZones.evaluate
  ((({ s with hinge := w.unit }).raiseIf w.angleFault .angleFault).raiseIf w.calDone .calDone).PostureWorkOnly t ∧
  t.hinge.sample = none ∧ t.hinge.samples = Count.bump s.hinge.samples ∧
  t.hinge.interval = s.hinge.interval ∧ t.hinge.shift = s.hinge.shift ∧ t.hinge.skewLimit = s.hinge.skewLimit ∧
  t.hinge.nextSampleAt = s.hinge.nextSampleAt ∧
  (∀ q, match sm.read q with
    | .fresh raw =>
      (t.hinge.pivot q).lastGood = some raw ∧ (t.hinge.pivot q).missRun = 0 ∧
        (t.hinge.pivot q).missTotal = (s.hinge.pivot q).missTotal
    | _ =>
      (t.hinge.pivot q).lastGood = (s.hinge.pivot q).lastGood ∧
        (t.hinge.pivot q).missRun = Count.bump (s.hinge.pivot q).missRun ∧
        (t.hinge.pivot q).missTotal = Count.bump (s.hinge.pivot q).missTotal) ∧
  t.posture = { s.posture with
    zones := s.posture.pendingZones.getD s.posture.zones, pendingZones := none, report := t.hinge.angle.report
    posture := u.posture, dwelling := u.dwelling, needA := t.posture.needA, needB := t.posture.needB } ∧
  ∀ x, (t.posture.need x).demand = t.posture.demandOf x

/-- Both pivots have a last good raw once the sample's readings are taken in: the sample is angle-producing (R3). -/
def Hinge.produces (sm : Sample) (h : Hinge) (rawL rawR : RawCount) : Prop :=
  (h.left.update sm.left).lastGood = some rawL ∧ (h.right.update sm.right).lastGood = some rawR

/-- Whether STAGED is present and holds a handle, or CAPTURE or SHOWN does (R54). -/
def Table.InPublished (t : Table) (h : Handle) : Prop :=
  (∃ p, t.staged = some p ∧ p.view[h].isSome = true) ∨ t.capture.view[h].isSome = true ∨ t.shown.view[h].isSome = true

/-- The table of `s` with another DRAFT. -/
def State.withDraft (s : State) (v : View) : State := { s with table := { s.table with draft := v } }

/-- The pixels of a part lie on a panel (1200 × 1680), and the canvas pixels that they show lie in the entry's source
rectangle (R94 to R99, R121 note 1). -/
def Part.Within (p : Part) (step : Nat) (e : Entry) : Prop :=
  1 ≤ p.rect.w ∧ 1 ≤ p.rect.h ∧ p.rect.x + p.rect.w ≤ 1200 ∧ p.rect.y + p.rect.h ≤ 1680 ∧
  e.source.x ≤ p.start.x ∧ p.start.x + step * (p.rect.w - 1) < e.source.x + e.source.w ∧
  e.source.y ≤ p.start.y ∧ p.start.y + step * (p.rect.h - 1) < e.source.y + e.source.h

/-- The unit after an entry to FAULT from `u` with the record `r` (R144); `cut` when a command packet was still being sent
for a run that the entry aborts (R171). -/
def PanelUnit.FaultedFrom (u u' : PanelUnit) (r : FaultRecord) (cut : Bool := false) : Prop :=
  u' = { u with
    state := .fault, run := none, linger := .absent, latched := false, resetAsserted := true, powerAsserted := false
    faultRecord := some r, faultEntries := Count.bump u.faultEntries
    layersEnabled := u.layersEnabled && u.state != .live, frameRows := u'.frameRows
    packetCut := u.packetCut || cut } ∧
  u'.linkContent = .off

/-- The run just started of a slot that holds index `i`, its first step under way in the given phase at `now` (R160); a
run that a completion started keeps its start (the model's choice, assumption 24). -/
def firstStep (slot : ScriptSlot) (i : StepIndex) (phase : Phase) (now : Nat) (byCompletion : Bool := false) : Option Run :=
  some ⟨slot, i, 1, phase, now, if byCompletion then some (i, now) else none⟩

/-- A panel's slot holds index `i`, at which a WAIT of `d` ms stands. -/
def PanelEnv.waitsAt (env : PanelEnv) (slot : ScriptSlot) (i : StepIndex) (d : Nat) : Prop :=
  env.slots.get slot = some i ∧ env.steps[i].body = .wait d

/-- The panel and its flag after a completion, with every run that it asks for started. -/
def PanelUnit.finish (env : PanelEnv) (slot : ScriptSlot) (failure : Option StepFailure) (u : PanelUnit) : PanelWork :=
  ((⟨u, false, none⟩ : PanelWork).completed env slot failure).settle env 8

/-- The unit on entering a panel state, before anything else of the event (see LinkCarriesTheTopmostLayer). -/
def PanelUnit.enters (env : PanelEnv) (new : PanelState) (u : PanelUnit) : PanelUnit :=
  ((⟨u, false, none⟩ : PanelWork).enter env new).unit

/-- The panel and its flag after a run of the slot has started in the event, with every run that follows in it; what the
start of a run is, RunGoesFromStepToStep says. `notify` is the flag as the event has raised it so far. -/
def PanelUnit.runs (env : PanelEnv) (slot : ScriptSlot) (byCompletion notify : Bool) (u : PanelUnit) : PanelWork :=
  (⟨u, notify, some ⟨slot, byCompletion⟩⟩ : PanelWork).settle env 8

/-- The unit without what scanout follows (R123 to R125). -/
def PanelUnit.apartFromScanout (u : PanelUnit) : PanelUnit := { u with layersEnabled := false, frameRows := [] }

/-- A part or rectangle covers a column and a row. -/
def Rect.Covers (r : Rect) (col row : Nat) : Prop := r.x ≤ col ∧ col < r.x + r.w ∧ r.y ≤ row ∧ row < r.y + r.h

end Sys2Proof.Machine
end

