-- ==== Sys2Proof/Certificates/Slice0/Obligations.lean ====
section
/-! DEFINITION. The statements for the provers. Each docstring cites the rule that the statement formalises. -/

open Sys2Proof Sys2Proof.Machine

/-! ## Steps and commands -/

/-- A step takes the command at the front of the queue and is that command's effect on the state with the rest of the
queue (the queue is the model's own, assumption 1). -/
def Obligations.StepRunsTheFrontCommand : Prop :=
  ∀ (c : Instr) (rest : List Instr) (s : State),
    s.pending = c :: rest → step s = exec c { s with pending := rest }

/-- Every command and event is taken whole: it answers a next state, the queue untouched, and the clock never runs back
(R176; assumptions 2 and 20). With no command waiting one microsecond passes and nothing else changes: the model's choice
(assumption 2). -/
def Obligations.EveryCommandAnswersANextState : Prop :=
  (∀ (c : Instr) (s : State), ∃ t : State, exec c s = .next t ∧ t.pending = s.pending ∧ s.now ≤ t.now) ∧
  (∀ s : State, s.pending = [] → step s = .next { s with now := s.now + 1 })

/-- DECODE AND ENCODE AGREE: the transaction that a host command is sent as is read back as that command, whatever its
operands (R174, R175, R179, R181). -/
def Obligations.TransactionOfACommandDecodesToIt : Prop :=
  ∀ (c : Instr) (bytes : List Byte),
    WellFormed c → encodeTransaction c = some bytes → decodeTransaction bytes = some c

/-- Every transaction is exactly one well-formed row: a REPLY READ when its kind byte is 0xA5, else a good command or a
link error; and a packet is good exactly when it is kind byte 0x5A, opcode, length, that many argument bytes, at most 60
and as many as the catalogue allows, and their CRC-8, whatever follows (R173, R174, R181). -/
def Obligations.EveryTransactionIsOneCommand : Prop :=
  (∀ bytes : List Byte, ∃ c : Instr, decodeTransaction bytes = some c ∧ WellFormed c ∧
    ((∃ n, c = .replyRead n) ↔ bytes.head? = some 0xA5#8)) ∧
  (∀ (bytes : List Byte) (opcode : Byte) (args : List Byte),
    judge bytes = .good opcode args ↔
      args.length ≤ 60 ∧ args.length ∈ argLengths opcode ∧
      ∃ tail : List Byte,
        bytes = 0x5A#8 :: opcode :: BitVec.ofNat 8 args.length :: args ++
          crc8 (opcode :: BitVec.ofNat 8 args.length :: args) :: tail)

/-! ## Command Port (chapter 9) -/

/-- A bad packet adds its one error to the report, with the port closed none; SDO is low throughout it, and nothing else
changes (R173, R174, R178, R189; the field `sdo` is the model's own, assumption 17). -/
def Obligations.LinkErrorJoinsTheReport : Prop :=
  ∀ (bytes : List Byte) (e : LinkError) (s : State), linkErrorOf bytes = some e →
    exec (.commandLinkError bytes) s = .next { s with port := { s.port with
      sdo := .low
      linkErrors := if s.portOpen then s.port.linkErrors ||| BitVec.ofNat 5 (2 ^ e.bit) else s.port.linkErrors } }

/-- A REPLY READ drives status, report, length, data and check byte, then zeros. Clocked out whole it marks the held
reply read and empties the report, the reply staying held; cut short it changes neither; with the port closed SDO
stays low. Nothing else changes. SDO is low in the kind byte of a REPLY READ and throughout a COMMAND, good or bad,
and is not driven with CSN high. A REPLY READ that a pin reset cuts short has driven its bytes until the fall of
RESETN, SDO is low from there, and the reset removes the reply (R173, R177, R189, R195; the field `sdo` is the model's
own, assumption 17, and assumption 6 places the cut transaction before the PIN_RESET). -/
def Obligations.ReplyReadReturnsTheHeldReply : Prop :=
  (∀ (n : Nat) (s : State),
    let status := match s.port.reply with | some r => r.status | none => .none
    let data := match s.port.reply with | some r => r.data | none => []
    let covered := status.code :: BitVec.ofNat 8 s.port.linkErrors.toNat :: 0#8 ::
      BitVec.ofNat 8 data.length :: BitVec.ofNat 8 (data.length / 256) :: data
    (s.portOpen = true → data.length + 6 ≤ n →
      exec (.replyRead n) s = .next { s with port := { s.port with
        replyRead := true, linkErrors := 0
        sdo := .reply (covered ++ crc8 covered :: List.replicate (n - (data.length + 6)) 0#8) } }) ∧
    (s.portOpen = true → n < data.length + 6 →
      exec (.replyRead n) s = .next { s with port := { s.port with sdo := .reply ((covered ++ [crc8 covered]).take n) } }) ∧
    (s.portOpen = false → exec (.replyRead n) s = .next { s with port := { s.port with sdo := .low } })) ∧
  (∀ (c : Instr) (s t : State), exec c s = .next t →
    (isHostCommand c = true ∨ ∃ bytes e, c = .commandLinkError bytes ∧ linkErrorOf bytes = some e) → t.port.sdo = .low) ∧
  (∀ (d : SdoDrive) (position : Nat), d.carries true position = none) ∧
  (∀ position : Nat, SdoDrive.low.carries false position = some 0#8) ∧
  (∀ bytes : List Byte, (SdoDrive.reply bytes).carries false 0 = some 0#8 ∧
    ∀ k b, bytes[k]? = some b → (SdoDrive.reply bytes).carries false (k + 1) = some b) ∧
  (∀ (s read reset : State) (clocked lowNs : Nat), s.portOpen = true → 10000 ≤ lowNs →
    exec (.replyRead clocked) s = .next read → exec (.pinReset lowNs) read = .next reset →
    reset.port.reply = none ∧ reset.port.linkErrors = 0 ∧
    ∀ position, reset.port.sdo.carries false position =
      if clocked < position then some 0#8 else read.port.sdo.carries false position)

/-- Every good command makes exactly one reply, held and not read. UNREAD joins the report when the reply before it had
not been read; SOFT RESET empties the report instead. A refused command carries no data and changes nothing else
(R176, R179, R191). -/
def Obligations.EveryGoodCommandMakesOneReply : Prop :=
  ∀ (c : Instr) (s : State), isHostCommand c = true → s.portOpen = true →
    ∃ (t : State) (r : Reply), exec c s = .next t ∧ t.port.reply = some r ∧ t.port.replyRead = false ∧
      (c ≠ .softReset → t.port.linkErrors =
        if s.port.reply.isSome = true ∧ s.port.replyRead = false then s.port.linkErrors ||| 0x10#5 else s.port.linkErrors) ∧
      (c = .softReset → t.port.linkErrors = 0 ∧ r = ⟨.done, []⟩) ∧
      (r.status ≠ .done → r.status ≠ .started → t = s.hold ⟨r.status, []⟩)

/-- While RESETN is low or the start-up window is open every host command is ignored whole, SDO low throughout it; while
RESETN is low no event but those of the input pins and of the RESETN pin itself has an effect (R189, R195; the field `sdo`
is the model's own, assumption 17). -/
def Obligations.ClosedPortAndResetIgnore : Prop :=
  ∀ (c : Instr) (s : State),
    (isHostCommand c = true → s.portOpen = false → exec c s = .next { s with port := { s.port with sdo := .low } }) ∧
    (heldInReset c = true → isHostCommand c = false → (∀ bytes, c ≠ .commandLinkError bytes) → s.inReset = true →
      exec c s = .next s)

/-- NOTIFY ENABLE and NOTIFY CLEAR, flag by flag, their replies, and their refusal of a mask above bit 9; enabling a set flag
asserts ALERT, and disabling one leaves it set (R185, R186). -/
def Obligations.NotifyEnableAndClear : Prop :=
  ∀ (value mask : Half) (s : State), s.portOpen = true →
    (1024 ≤ mask.toNat →
      exec (.notifyEnable value mask) s = .next (s.hold ⟨.range, []⟩) ∧
      exec (.notifyClear mask) s = .next (s.hold ⟨.range, []⟩)) ∧
    (mask.toNat < 1024 → ∃ enables flags : BitVec 10,
      (∀ i, i < 10 → enables.getLsbD i =
        if mask.getLsbD i then value.getLsbD i else s.port.enables.getLsbD i) ∧
      (∀ i, i < 10 → flags.getLsbD i = (s.port.flags.getLsbD i && !mask.getLsbD i)) ∧
      exec (.notifyEnable value mask) s =
        .next (({ s with port := { s.port with enables := enables } }).hold ⟨.done, byte2 enables.toNat⟩) ∧
      (∀ i, i < 10 → mask.getLsbD i = true → value.getLsbD i = true → s.port.flags.getLsbD i = true →
        ({ s.port with enables := enables } : Port).alert = true) ∧
      exec (.notifyClear mask) s =
        .next (({ s with port := { s.port with flags := flags } }).hold ⟨.done, byte2 flags.toNat⟩))

/-- ALERT is asserted exactly while a flag is both set and enabled; NOTIFY READ returns flags, enables and its level
(asserted 0, released 1: assumption 12), IDENTIFY the part code, revision and straps; both change nothing
(R184, R187, R188). -/
def Obligations.AlertNotifyReadAndIdentify : Prop :=
  (∀ p : Port, p.alert = true ↔ ∃ i, i < 10 ∧ p.flags.getLsbD i = true ∧ p.enables.getLsbD i = true) ∧
  (∀ s : State, s.portOpen = true →
    exec .notifyRead s = .next (s.hold ⟨.done,
      [BitVec.ofNat 8 s.port.flags.toNat, BitVec.ofNat 8 (s.port.flags.toNat / 256),
       BitVec.ofNat 8 s.port.enables.toNat, BitVec.ofNat 8 (s.port.enables.toNat / 256),
       if s.port.flags &&& s.port.enables = 0 then 1#8 else 0#8]⟩)) ∧
  (∀ s : State, s.portOpen = true →
    exec .identify s = .next (s.hold ⟨.done, [0x16#8, 0x24#8, 0x01#8,
      (BitVec.ofBool s.port.straps.leadsel ++ BitVec.ofBool s.port.straps.polb ++
        BitVec.ofBool s.port.straps.pola).setWidth 8]⟩))

/-- RESETN pulses. Below 2 µs: no block notices. From 10 µs: every block takes the values of its chapter's table, the
clock, the queue and the input levels kept; a command packet that was still being sent is cut short. In between: one or the
other, whole (R171, R189; assumption 3; the fields of what SDO and the panel links carried latest are the model's own,
assumption 17). -/
def Obligations.PinResetPutsEveryBlockInItsResetState : Prop :=
  ∀ (n : Nat) (s : State),
    (n < 2000 → exec (.pinReset n) s = .next s) ∧
    (2000 ≤ n → n < 10000 →
      (exec (.pinReset n) s = .next { s with shortPulses := s.shortPulses + 1 } ∨
        exec (.pinReset n) s = exec (.pinReset 10000) { s with shortPulses := s.shortPulses + 1 })) ∧
    (10000 ≤ n → ∃ t : State, exec (.pinReset n) s = .next t ∧
      t.inReset = true ∧ t.now = s.now ∧ t.pending = s.pending ∧
      t.panelA.attentionLine = s.panelA.attentionLine ∧ t.panelB.attentionLine = s.panelB.attentionLine ∧
      -- R23
      (∀ p ∈ [t.hinge.left, t.hinge.right], p.zero = 0 ∧ p.lastGood = none ∧ p.missRun = 0 ∧ p.missTotal = 0 ∧
        p.clamped = false ∧ p.delta = none) ∧
      t.hinge.interval = 10 ∧ t.hinge.shift = 2 ∧ t.hinge.skewLimit = 91 ∧ t.hinge.skew = none ∧ t.hinge.skewRun = 0 ∧
      t.hinge.angle = .acquiring ∧ t.hinge.instant = none ∧ t.hinge.seedPending = false ∧ t.hinge.sample = none ∧
      t.hinge.capture = none ∧ t.hinge.lastResult = .none ∧ t.hinge.samples = 0 ∧ t.hinge.overLimit = 0 ∧
      t.hinge.faultEntries = 0 ∧
      -- R47
      t.posture.zones = ⟨150, 700, 1500, 2050, 3300⟩ ∧ t.posture.pendingZones = none ∧ t.posture.hysteresis = 30 ∧
      t.posture.dwell = 3 ∧ t.posture.margin = 150 ∧ t.posture.mode = .track ∧ t.posture.posture = none ∧
      t.posture.dwelling = none ∧ t.posture.report = .acquiring ∧ t.posture.profiles = Profile.defaults ∧
      (∀ x, t.posture.need x = ⟨false, false, ⟨false, false⟩⟩) ∧
      -- R67
      (∀ h : Handle, t.table.status h = .free) ∧ t.table.staged = none ∧ t.table.capture.gen = 0 ∧
      t.table.shown.gen = 0 ∧ t.table.register = 0 ∧ t.table.superseded = 0 ∧
      -- R87
      t.frame.rate = .hz60 ∧ (∀ col row, Bank.pixel t.frame.scan col row = ⟨0, 0, 0⟩) ∧ t.frame.scanCaptured = false ∧
      t.frame.captureState = .empty ∧ t.frame.flips = 0 ∧ t.frame.repeats = 0 ∧ t.frame.dropped = 0 ∧
      t.frame.truncated = 0 ∧ t.frame.malformed = 0 ∧ t.frame.frmreq = none ∧
      -- R112, R129
      (∀ h : Handle, t.comp.records[h] = Record.vacant 0 ∧ t.comp.memory[h] = none) ∧ t.comp.reflow = [] ∧
      (∀ x, (t.comp.stackOf x).stack = [] ∧ (t.comp.stackOf x).starved = [] ∧
        (t.comp.stackOf x).context = ⟨0, ⟨0, 0, 0⟩, false, .dark⟩ ∧ (t.comp.stackOf x).starvedTotal = 0) ∧
      -- R152, R172
      (∀ x, (t.panel x).state = .dark ∧ (t.panel x).demandIn = false ∧ (t.panel x).wantedIn = false ∧
        (t.panel x).run = none ∧ (t.panel x).linger = .absent ∧ (t.panel x).latched = false ∧
        (t.panel x).recoveryCount = 0 ∧ (t.panel x).recoveryWindow = none ∧ (t.panel x).faultRecord = none ∧
        (t.panel x).tolerated = none ∧ (t.panel x).resetAsserted = true ∧ (t.panel x).powerAsserted = false ∧
        (t.panel x).attentions = 0 ∧ (t.panel x).recoveries = 0 ∧ (t.panel x).faultEntries = 0 ∧
        (t.panel x).layersEnabled = false ∧ (t.panel x).linkContent = .off ∧ t.scripts.slots x = ⟨none, none, none⟩) ∧
      -- R171, R195
      (∀ x, (t.panel x).packet = (s.panel x).packet ∧
        (t.panel x).packetCut = ((s.panel x).packetCut || (s.panel x).sending s.now)) ∧ t.port.sdo = s.port.sdo ∧
      t.lingerTime = 2000 ∧ (∀ i : StepIndex, t.scripts.steps[i] = ⟨false, .finish⟩) ∧
      -- R193
      t.port.reply = none ∧ t.port.replyRead = true ∧ t.port.linkErrors = 0 ∧ t.port.flags = 0 ∧ t.port.enables = 0)

/-- The release of RESETN samples the straps, takes the lead panel from LEADSEL, begins the sample interval and the
period and opens the start-up window of 2 ms; its close lets transactions through. Nothing else changes
(R1, R40, R69, R189, R190). -/
def Obligations.ReleaseOfResetOpensTheWindow : Prop :=
  ∀ (straps : Straps) (s : State),
    (s.inReset = true → exec (.resetnRelease straps) s = .next { s with
      inReset := false
      hinge := { s.hinge with nextSampleAt := s.now + 1000 * s.hinge.interval }
      posture := { s.posture with lead := if straps.leadsel then .b else .a }
      frame := { s.frame with periodStart := s.now }
      port := { s.port with straps := straps, startUpCloses := some (s.now + 2000) } }) ∧
    (s.inReset = false → exec (.resetnRelease straps) s = .next s) ∧
    (∀ closes, s.inReset = false → s.port.startUpCloses = some closes →
      ∃ t : State, exec .startUpWindowClose s = .next t ∧ t.portOpen = true ∧
        t = { s with now := max s.now closes, port := { s.port with startUpCloses := none } })

/-- SOFT RESET: zeros, polarities, straps, Script Memory and slots kept; the lead panel back to LEADSEL; every other part
as after pin reset; the reply DONE held and not read, no start-up window (R24, R48, R68, R88, R113, R130, R153, R172,
R191, R194). -/
def Obligations.SoftResetKeepsZerosStrapsAndScripts : Prop :=
  ∀ s : State, s.portOpen = true → ∃ p t : State,
    exec (.pinReset 10000) s = .next p ∧ exec .softReset s = .next t ∧
    t.hinge = { p.hinge with
      left := { p.hinge.left with zero := s.hinge.left.zero }
      right := { p.hinge.right with zero := s.hinge.right.zero }
      nextSampleAt := s.now + 10000 } ∧
    t.posture = { p.posture with lead := if s.port.straps.leadsel then .b else .a } ∧ t.table = p.table ∧
    t.frame = { p.frame with periodStart := s.now } ∧ t.comp = p.comp ∧ t.panelA = p.panelA ∧ t.panelB = p.panelB ∧
    t.lingerTime = 2000 ∧ t.scripts = s.scripts ∧ t.now = s.now ∧ t.inReset = false ∧ t.pending = s.pending ∧
    t.port.straps = s.port.straps ∧ t.port.startUpCloses = none ∧ t.port.flags = 0 ∧ t.port.enables = 0 ∧
    t.port.linkErrors = 0 ∧ t.port.reply = some ⟨.done, []⟩ ∧ t.port.replyRead = false

/-! ## Hinge Unit (chapter 1) -/

/-- A sample starts when the interval expires: both reads awaited, the next interval begun with the interval in force,
contributing when a zero capture is in flight (R1, R16). A read still awaited has timed out first (assumption 7). -/
def Obligations.SampleStartsAtTheIntervalExpiry : Prop :=
  ∀ s : State, s.inReset = false →
    ((∀ sm ∈ s.hinge.sample, sm.left ≠ .waiting ∧ sm.right ≠ .waiting) →
      exec .sampleIntervalExpiry s = .next { s with
        now := max s.now s.hinge.nextSampleAt
        hinge := { s.hinge with
          nextSampleAt := max s.now s.hinge.nextSampleAt + 1000 * s.hinge.interval
          sample := some ⟨max s.now s.hinge.nextSampleAt, .waiting, .waiting, s.hinge.capture.isSome⟩ } }) ∧
    (∀ p, (∃ sm, s.hinge.sample = some sm ∧ sm.read p = .waiting) →
      ∃ u : State, exec (.sensorReadTimeout p) s = .next u ∧
        exec .sampleIntervalExpiry s = exec .sampleIntervalExpiry u)

/-- Each read ends once, at its reply, fresh by field-OK, or as a miss 1 ms after its request, and leaves the other read
awaited; a reply with no read awaited is discarded (R2), and a time limit with none running changes nothing: the model's
choice (assumption 4). -/
def Obligations.FirstReadOfASampleWaitsForTheOther : Prop :=
  ∀ (p : Pivot) (raw : RawCount) (ok : Bool) (s : State), s.inReset = false →
    ((∀ sm ∈ s.hinge.sample, sm.read p ≠ .waiting) →
      exec (.sensorReply p raw ok) s = .next s ∧ exec (.sensorReadTimeout p) s = .next s) ∧
    (∀ sm, s.hinge.sample = some sm → sm.read p = .waiting → sm.read (otherPivot p) = .waiting →
      exec (.sensorReply p raw ok) s = .next { s with
        hinge := { s.hinge with sample := some (sm.setRead p (if ok then .fresh raw else .miss)) } } ∧
      exec (.sensorReadTimeout p) s = .next { s with
        now := max s.now (sm.requestedAt + 1000)
        hinge := { s.hinge with sample := some (sm.setRead p .miss) } })

/-- The second read to end completes the sample, by a reply or by the time limit: readings, miss counts, counter, the
hand-over to the Posture Unit and the flags (R2, R3, R9, R14, R27, R29). -/
def Obligations.SecondReadCompletesTheSample : Prop :=
  ∀ (p : Pivot) (raw : RawCount) (ok : Bool) (s : State) (sm : Sample),
    s.inReset = false → s.hinge.sample = some sm → sm.read p = .waiting → sm.read (otherPivot p) ≠ .waiting →
    (∃ t, exec (.sensorReply p raw ok) s = .next t ∧
      s.CompletesTo (sm.setRead p (if ok then .fresh raw else .miss)) t) ∧
    (∃ t, exec (.sensorReadTimeout p) s = .next t ∧
      ({ s with now := max s.now (sm.requestedAt + 1000) }).CompletesTo (sm.setRead p .miss) t)

/-- Signed delta, clamp, skew and instantaneous angle of an angle-producing sample, with the zeros in force before it
(R4, R5, R6). -/
def Obligations.SampleMeasuresDeltasSkewAndAngle : Prop :=
  (∀ (negative : Bool) (zero raw : RawCount),
    let d := signedDelta negative zero raw
    d ≥ -1024 ∧ d ≤ 3071 ∧
      (4096 : Int) ∣ d - (if negative then (zero.toNat : Int) - raw.toNat else (raw.toNat : Int) - zero.toNat)) ∧
  (∀ d : Int, (clampDelta d : Int) = max 0 (min 2048 d)) ∧
  (∀ cL cR, cL ≤ 2048 → cR ≤ 2048 →
    4096 * foldAngle cL cR ≤ (cL + cR) * 3600 + 2048 ∧ (cL + cR) * 3600 + 2048 < 4096 * (foldAngle cL cR + 1) ∧
      foldAngle cL cR ≤ 3600) ∧
  (∀ (straps : Straps) (sm : Sample) (h : Hinge) (rawL rawR : RawCount), h.produces sm rawL rawR →
    let h' := (h.complete straps sm).unit
    let dL := signedDelta straps.pola h.left.zero rawL
    let dR := signedDelta straps.polb h.right.zero rawR
    h'.left.delta = some dL ∧ h'.left.clamped = decide (dL < 0 ∨ 2048 < dL) ∧
    h'.right.delta = some dR ∧ h'.right.clamped = decide (dR < 0 ∨ 2048 < dR) ∧
    h'.instant = some (foldAngle (clampDelta dL) (clampDelta dR)) ∧
    (sm.left.isFresh = true → sm.right.isFresh = true → h'.skew = some (dL - dR).natAbs ∧
      (h.skewLimit < (dL - dR).natAbs → h'.skewRun = Count.bump h.skewRun ∧ h'.overLimit = Count.bump h.overLimit) ∧
      ((dL - dR).natAbs ≤ h.skewLimit → h'.skewRun = 0 ∧ h'.overLimit = h.overLimit)) ∧
    (¬ (sm.left.isFresh = true ∧ sm.right.isFresh = true) →
      h'.skew = h.skew ∧ h'.skewRun = h.skewRun ∧ h'.overLimit = h.overLimit))

/-- One filter step: the distance over 2^k truncated toward zero, at least one unit, never past A × 256; the reported angle
is F rounded to the nearest tenth of a degree (R7). -/
def Obligations.FilterStepMovesTowardTheAngle : Prop :=
  (∀ k a f : Nat,
    let d : Int := (a : Int) * 256 - f
    let step : Int := (filterStep k a f : Int) - f
    (d = 0 → step = 0) ∧ (0 < d → 0 < step ∧ step ≤ d) ∧ (d < 0 → d ≤ step ∧ step < 0) ∧
    (2 ^ k ≤ d.natAbs → step = d.tdiv (2 ^ k)) ∧ (d.natAbs < 2 ^ k → step = d.sign) ∧
    (a ≤ 3600 → f ≤ 921600 → filterStep k a f ≤ 921600)) ∧
  (∀ f : Nat, 256 * reportedOf f ≤ f + 128 ∧ f + 128 < 256 * (reportedOf f + 1))

/-- The angle state at a sample completion: ACQUIRING until an angle is produced, then seeded; TRACKING faults when a miss
count reaches 5 or the skew count 4, the filter held, else it steps or is seeded; FAULTED gathers conditions, counts clean
samples and is seeded at the eighth. Every seeding clears seed pending, FAULTED keeps it; a sample that produces no angle
leaves ACQUIRING as it is, the instantaneous angle, deltas and skew too (R3, R8, R10 to R13). -/
def Obligations.AngleStateFollowsTheSamples : Prop :=
  (∀ (straps : Straps) (sm : Sample) (h : Hinge) (rawL rawR : RawCount), h.produces sm rawL rawR →
    let w := h.complete straps sm
    let lostL : Bool := 5 ≤ w.unit.left.missRun.toNat
    let lostR : Bool := 5 ≤ w.unit.right.missRun.toNat
    let skewed : Bool := 4 ≤ w.unit.skewRun.toNat
    let clean : Bool := sm.left.isFresh && sm.right.isFresh && decide (∀ k ∈ w.unit.skew, k ≤ h.skewLimit)
    -- the sample does not end a zero capture with new zeros, which sets seed pending (R18)
    let noNewZeros : Prop := w.calDone = false ∨ w.unit.lastResult = .failed
    ∃ a, w.unit.instant = some a ∧
      (h.angle = .acquiring → w.unit.angle = .tracking (a * 256) ∧ w.angleFault = false ∧
        (noNewZeros → w.unit.seedPending = false)) ∧
      (∀ f, h.angle = .tracking f →
        ((lostL || lostR || skewed) = true →
          w.unit.angle = .faulted f ⟨lostL, lostR, skewed⟩ 0 ∧ w.angleFault = true ∧
            w.unit.faultEntries = Count.bump h.faultEntries ∧ (noNewZeros → w.unit.seedPending = h.seedPending)) ∧
        ((lostL || lostR || skewed) = false → w.angleFault = false ∧ w.unit.faultEntries = h.faultEntries ∧
          w.unit.angle = .tracking (if h.seedPending then a * 256 else filterStep h.shift a f) ∧
          (noNewZeros → w.unit.seedPending = false))) ∧
      (∀ f g n, h.angle = .faulted f g n → w.unit.faultEntries = h.faultEntries ∧
        (clean = true → 7 ≤ n → w.unit.angle = .tracking (a * 256) ∧ w.angleFault = true ∧
          (noNewZeros → w.unit.seedPending = false)) ∧
        ((clean = false ∨ n < 7) → w.angleFault = false ∧
          w.unit.angle = .faulted f ⟨g.lostL || lostL, g.lostR || lostR, g.skew || skewed⟩ (if clean then n + 1 else 0) ∧
          (noNewZeros → w.unit.seedPending = h.seedPending)))) ∧
  (∀ (straps : Straps) (sm : Sample) (h : Hinge), (∀ rawL rawR, ¬ h.produces sm rawL rawR) →
    let w := h.complete straps sm
    w.unit.instant = h.instant ∧ w.unit.left.delta = h.left.delta ∧ w.unit.right.delta = h.right.delta ∧
    w.unit.left.clamped = h.left.clamped ∧ w.unit.right.clamped = h.right.clamped ∧ w.unit.skew = h.skew ∧
    w.unit.skewRun = h.skewRun ∧ w.unit.overLimit = h.overLimit ∧
    (h.angle = .acquiring → w.unit.angle = .acquiring ∧ w.angleFault = false ∧ w.unit.faultEntries = h.faultEntries ∧
      ((∀ l r, h.capture ≠ some (.counting 16 l r)) → w.unit.seedPending = h.seedPending)))

/-- ZERO CAPTURE starts a capture or answers BUSY; a contributing sample is counted, or ends the capture FAILED at a miss;
the sixteenth gives each pivot r1 plus the rounded mean offset, modulo 4096, sets seed pending and CAL_DONE
(R16, R17, R18). -/
def Obligations.ZeroCaptureAveragesSixteenSamples : Prop :=
  (∀ s : State, s.portOpen = true →
    (s.hinge.capture = none →
      exec .zeroCapture s = .next (({ s with hinge := { s.hinge with capture := some .started } }).hold ⟨.started, []⟩)) ∧
    (s.hinge.capture.isSome = true → exec .zeroCapture s = .next (s.hold ⟨.busy, []⟩))) ∧
  (∀ first raw : RawCount,
    -2048 ≤ captureOffset first raw ∧ captureOffset first raw ≤ 2047 ∧
      (4096 : Int) ∣ captureOffset first raw - ((raw.toNat : Int) - first.toNat)) ∧
  (∀ (straps : Straps) (sm : Sample) (h : Hinge),
    let w := h.complete straps sm
    let kept := w.unit.left.zero = h.left.zero ∧ w.unit.right.zero = h.right.zero
    ((h.capture = none ∨ sm.contributes = false) →
      (∀ l r, h.capture ≠ some (.counting 16 l r)) →
        kept ∧ w.unit.capture = h.capture ∧ w.unit.lastResult = h.lastResult ∧ w.calDone = false) ∧
    (h.capture.isSome = true → sm.contributes = true → (sm.left.isFresh && sm.right.isFresh) = false →
      kept ∧ w.unit.capture = none ∧ w.unit.lastResult = .failed ∧ w.calDone = true) ∧
    (∀ rawL rawR, sm.contributes = true → sm.left = .fresh rawL → sm.right = .fresh rawR →
      (h.capture = some .started →
        kept ∧ w.unit.capture = some (.counting 1 ⟨rawL, 0⟩ ⟨rawR, 0⟩) ∧ w.calDone = false) ∧
      (∀ n l r, h.capture = some (.counting n l r) →
        let sumL := l.sum + captureOffset l.first rawL
        let sumR := r.sum + captureOffset r.first rawR
        (n < 15 → kept ∧ w.unit.capture = some (.counting (n + 1) ⟨l.first, sumL⟩ ⟨r.first, sumR⟩) ∧ w.calDone = false) ∧
        (n = 15 →
          (w.unit.left.zero.toNat : Int) = ((l.first.toNat : Int) + (sumL + 8) / 16) % 4096 ∧
          (w.unit.right.zero.toNat : Int) = ((r.first.toNat : Int) + (sumR + 8) / 16) % 4096 ∧
          w.unit.seedPending = true ∧ w.unit.capture = none ∧ w.unit.lastResult = .ok ∧ w.calDone = true))))

/-- ZERO WRITE and HINGE CONFIG: refused for a zero above 4095 or while a capture is in flight, else the two zeros, or the
three settings clamped, are replaced together (R15, R21). That RANGE comes before BUSY is the model's reading (assumption 25). -/
def Obligations.ZeroWriteAndHingeConfig : Prop :=
  ∀ s : State, s.portOpen = true →
    (∀ zl zr : Half,
      ((4095 < zl.toNat ∨ 4095 < zr.toNat) → exec (.zeroWrite zl zr) s = .next (s.hold ⟨.range, []⟩)) ∧
      (zl.toNat ≤ 4095 → zr.toNat ≤ 4095 → s.hinge.capture.isSome = true →
        exec (.zeroWrite zl zr) s = .next (s.hold ⟨.busy, []⟩)) ∧
      (zl.toNat ≤ 4095 → zr.toNat ≤ 4095 → s.hinge.capture = none →
        ∃ zl' zr' : RawCount, zl'.toNat = zl.toNat ∧ zr'.toNat = zr.toNat ∧
          exec (.zeroWrite zl zr) s = .next (({ s with hinge := { s.hinge with
            left := { s.hinge.left with zero := zl' }
            right := { s.hinge.right with zero := zr' }
            seedPending := true } }).hold ⟨.done, []⟩))) ∧
    (∀ i k l : Half,
      (s.hinge.capture.isSome = true → exec (.hingeConfig i k l) s = .next (s.hold ⟨.busy, []⟩)) ∧
      (s.hinge.capture = none →
        exec (.hingeConfig i k l) s = .next (({ s with hinge := { s.hinge with
          interval := max 5 (min 50 i.toNat), shift := min 4 k.toNat, skewLimit := max 8 (min 255 l.toNat) } }).hold
            ⟨.done, byte2 (max 5 (min 50 i.toNat)) ++ byte2 (min 4 k.toNat) ++ byte2 (max 8 (min 255 l.toNat))⟩)))

/-! ## Posture Unit (chapter 2) -/

/-- Every angle lies in exactly one zone; the candidate is that zone with no posture or on a trigger, which leads above an
up-trigger's zone and below a down-trigger's, and else the posture in force (R25, R31, R32). -/
def Obligations.ZonesAndTriggersNameTheCandidate : Prop :=
  (∀ (z : Zones) (a : Nat), z.valid = true → a ≤ 3600 →
    z.lower (z.containing a) ≤ a ∧ a < z.upper (z.containing a) ∧
      ∀ p, z.lower p ≤ a → a < z.upper p → p = z.containing a) ∧
  (∀ (u : PostureUnit) (a : Nat), u.zones.valid = true → a ≤ 3600 →
    (u.posture = none → u.candidate a = u.zones.containing a) ∧
    (∀ c, u.posture = some c →
      (c ≠ .backfold → u.zones.upper c + u.hysteresis ≤ a →
        u.candidate a = u.zones.containing a ∧ c.number < (u.candidate a).number) ∧
      (c ≠ .shut → a + u.hysteresis < u.zones.lower c →
        u.candidate a = u.zones.containing a ∧ (u.candidate a).number < c.number) ∧
      ((c = .backfold ∨ a < u.zones.upper c + u.hysteresis) → (c = .shut ∨ u.zones.lower c ≤ a + u.hysteresis) →
        u.candidate a = c)))

/-- Posture evaluation runs in TRACK with the angle TRACKING alone, and moves the posture when the same candidate has held
for the dwell in force (R30, R33). -/
def Obligations.PostureMovesAfterItsDwell : Prop :=
  ∀ u : PostureUnit,
    ((u.mode ≠ .track ∨ ∀ a, u.report ≠ .tracking a) → u.evaluate = { u with dwelling := none }) ∧
    (∀ a, u.mode = .track → u.report = .tracking a →
      let c := u.candidate a
      let n := match u.dwelling with
        | some d => if d.candidate = c then d.count + 1 else 1
        | none => 1
      (u.posture = some c → u.evaluate = { u with dwelling := none }) ∧
      (u.posture ≠ some c → n < u.dwell → u.evaluate = { u with dwelling := some ⟨c, n⟩ }) ∧
      (u.posture ≠ some c → u.dwell ≤ n → u.evaluate = { u with posture := some c, dwelling := none }))

/-- Demand resolves the profile's field with the lead panel; pre-demand looks to the neighbouring zones within the margin;
and with the default settings in PEEK the other panel is pre-demanded from 550 on, in SHUT the lead panel at every angle,
in BACKFOLD the other panel below 3450 (R41, R42, R43). -/
def Obligations.DemandAndPreDemandFollowTheFold : Prop :=
  (∀ (u : PostureUnit) (x : Panel),
    (u.demandOf x = true ↔ ∃ p, u.posture = some p ∧
      ((u.profile p).demand x = .on ∨ ((u.profile p).demand x = .lead ∧ x = u.lead) ∨
        ((u.profile p).demand x = .trail ∧ x ≠ u.lead))) ∧
    (u.preDemandOf x = true ↔ ∃ c a, u.posture = some c ∧ u.mode = .track ∧ u.report = .tracking a ∧
      (u.need x).demand = false ∧
      ((u.zones.upper c ≤ 3600 ∧ u.zones.upper c ≤ a + u.margin ∧
          ({ u with posture := some (u.zones.containing (u.zones.upper c)) }).demandOf x = true) ∨
        (0 < u.zones.lower c ∧ a < u.zones.lower c + u.margin ∧
          ({ u with posture := some (u.zones.containing (u.zones.lower c - 1)) }).demandOf x = true)))) ∧
  (∀ (leadsel : Bool) (a : Nat) (x : Panel),
    let u := fun p => ({ PostureUnit.reset leadsel with posture := some p, report := .tracking a }).resolveDemands
    ((u .shut).preDemandOf x = decide (x = leadOf leadsel)) ∧
    ((u .peek).preDemandOf x = decide (x ≠ leadOf leadsel ∧ 550 ≤ a)) ∧
    ((u .backfold).preDemandOf x = decide (x ≠ leadOf leadsel ∧ a < 3450)))

/-- ZONES WRITE, POSTURE CONFIG, PROFILE WRITE and LEAD SET: their refusals, what each replaces, what it leaves, and the
pre-demand and change events that follow (R26, R34, R38, R40). -/
def Obligations.PostureSettingsAreWritten : Prop :=
  ∀ s : State, s.portOpen = true →
    (∀ b1 b2 b3 b4 b5 : Half,
      let z : Zones := ⟨b1.toNat, b2.toNat, b3.toNat, b4.toNat, b5.toNat⟩
      (z.valid = true → exec (.zonesWrite b1 b2 b3 b4 b5) s =
        .next (({ s with posture := { s.posture with pendingZones := some z } }).hold ⟨.done, []⟩)) ∧
      (z.valid = false → exec (.zonesWrite b1 b2 b3 b4 b5) s = .next (s.hold ⟨.range, []⟩))) ∧
    (∀ h d m : Half, ∃ t : State, s.PostureWorkOnly t ∧
      t.posture = { s.posture with
        hysteresis := min 100 h.toNat, dwell := max 1 (min 16 d.toNat), margin := min 300 m.toNat
        needA := t.posture.needA, needB := t.posture.needB } ∧
      (∀ x, (t.posture.need x).demand = (s.posture.need x).demand) ∧
      exec (.postureConfig h d m) s = .next (t.hold ⟨.done,
        byte2 (min 100 h.toNat) ++ byte2 (max 1 (min 16 d.toNat)) ++ byte2 (min 300 m.toNat)⟩)) ∧
    (∀ (b : Byte) (f : RawProfile),
      (∀ p q, postureOfByte b = some p → profileOf f = some q → ∃ t : State, s.PostureWorkOnly t ∧
        t.posture = { s.posture with
          profiles := s.posture.profiles.set p.number q, needA := t.posture.needA, needB := t.posture.needB } ∧
        (∀ x, (t.posture.need x).demand =
          if s.posture.posture = some p then t.posture.demandOf x else (s.posture.need x).demand) ∧
        exec (.profileWrite b f) s = .next (t.hold ⟨.done, []⟩)) ∧
      ((5 < b.toNat ∨ profileOf f = none) → exec (.profileWrite b f) s = .next (s.hold ⟨.range, []⟩)) ∧
      (profileOf f = none ↔ 3 < f.demandA.toNat ∨ 3 < f.demandB.toNat ∨ 1 < f.rotationA.toNat ∨ 1 < f.rotationB.toNat ∨
        1 < f.span.toNat)) ∧
    (∀ b : Byte,
      (1 < b.toNat → exec (.leadSet b) s = .next (s.hold ⟨.range, []⟩)) ∧
      (b.toNat ≤ 1 → s.posture.lead = (if b.toNat = 0 then .a else .b) → exec (.leadSet b) s = .next (s.hold ⟨.done, []⟩)) ∧
      (b.toNat ≤ 1 → s.posture.lead ≠ (if b.toNat = 0 then .a else .b) → ∃ t : State, s.PostureWorkOnly t ∧
        t.posture = { s.posture with
          lead := if b.toNat = 0 then .a else .b, needA := t.posture.needA, needB := t.posture.needB } ∧
        (∀ x, (t.posture.need x).demand = t.posture.demandOf x) ∧
        exec (.leadSet b) s = .next (t.hold ⟨.done, []⟩)))

/-- TRACK MODE: TRACK and HOLD keep the posture and clear the dwell; FORCE sets the posture at once, with POSTURE when it
changes; other modes and postures above 5 are refused (R35, R36). -/
def Obligations.TrackModeKeepsOrForcesThePosture : Prop :=
  ∀ s : State, s.portOpen = true →
    (∃ t : State, s.PostureWorkOnly t ∧ exec .trackModeTrack s = .next (t.hold ⟨.done, []⟩) ∧
      t.posture = { s.posture with
        mode := .track, dwelling := none, needA := t.posture.needA, needB := t.posture.needB } ∧
      (∀ x, (t.posture.need x).demand = (s.posture.need x).demand)) ∧
    (∃ t : State, s.PostureWorkOnly t ∧ exec .trackModeHold s = .next (t.hold ⟨.done, []⟩) ∧
      t.posture = { s.posture with
        mode := .hold, dwelling := none, needA := t.posture.needA, needB := t.posture.needB } ∧
      (∀ x, (t.posture.need x).demand = (s.posture.need x).demand ∧ (t.posture.need x).preDemand = false)) ∧
    (∀ b : Byte,
      (5 < b.toNat → exec (.trackModeForce b) s = .next (s.hold ⟨.range, []⟩)) ∧
      (∀ p : Posture, b.toNat = p.number.val → ∃ t : State, s.PostureWorkOnly t ∧
        exec (.trackModeForce b) s = .next (t.hold ⟨.done, []⟩) ∧
        t.posture = { s.posture with
          mode := .forced, dwelling := none, posture := some p, needA := t.posture.needA, needB := t.posture.needB } ∧
        (∀ x, (t.posture.need x).demand = t.posture.demandOf x ∧ (t.posture.need x).preDemand = false) ∧
        (t.flagged .posture = true ↔ s.flagged .posture = true ∨ s.posture.posture ≠ some p))) ∧
    (∀ mode posture : Byte, exec (.trackModeInvalidMode mode posture) s = .next (s.hold ⟨.range, []⟩))

/-! ## Placement Table (chapter 3) and publishing (chapter 4) -/

/-- The status of a handle by its presence in the views; a FREE handle stays FREE at a publish, a binding and a flip
(R54, R55). -/
def Obligations.HandleStatusFollowsTheViews : Prop :=
  ∀ (t : Table) (h : Handle),
    (t.status h = .free ↔ t.draft[h] = none ∧ ¬ t.InPublished h) ∧
    (t.status h = .pending ↔ t.draft[h].isSome = true ∧ t.shown.view[h] = none) ∧
    (t.status h = .active ↔ t.draft[h].isSome = true ∧ t.shown.view[h].isSome = true) ∧
    (t.status h = .retiring ↔ t.draft[h] = none ∧ t.InPublished h) ∧
    (t.status h = .free → t.publish.status h = .free ∧ t.bind.status h = .free ∧ t.flip.status h = .free)

/-- ENTRY BIND: RANGE for an invalid group, EXHAUSTED with no handle FREE, else the lowest FREE handle takes an entry that
passes every check of R51 and carries the fields sent; a group is invalid exactly when a check of R51 fails, the values
sent with an absent origin not judged (R51, R56). -/
def Obligations.EntryBindGivesTheLowestFreeHandle : Prop :=
  ∀ (f : RawEntry) (s : State), s.portOpen = true →
    (entryOf f = none → exec (.entryBind f) s = .next (s.hold ⟨.range, []⟩)) ∧
    (∀ e, entryOf f = some e → (∀ h, s.table.status h ≠ .free) →
      exec (.entryBind f) s = .next (s.hold ⟨.exhausted, []⟩)) ∧
    (∀ e h, entryOf f = some e → s.table.status h = .free → (∀ k, k < h → s.table.status k ≠ .free) →
      exec (.entryBind f) s =
        .next ((s.withDraft (s.table.draft.set h (some e))).hold ⟨.done, [BitVec.ofNat 8 h.val]⟩)) ∧
    (∀ e, entryOf f = some e → e.valid = true ∧ e.tag = f.tag ∧
      e.source = ⟨f.sx.toNat, f.sy.toNat, f.sw.toNat, f.sh.toNat⟩ ∧
      f.home.toNat = (match e.home with | .a => 0 | .b => 1) ∧ e.homeAt = ⟨f.hx.toNat, f.hy.toNat⟩ ∧
      e.guestAt = (if f.guestPresent.toNat = 1 then some ⟨f.gx.toNat, f.gy.toNat⟩ else none) ∧
      e.spanAt = (if f.spanPresent.toNat = 1 then some ⟨f.px.toNat, f.py.toNat⟩ else none) ∧
      e.priority.val = f.priority.toNat ∧ e.visibility.toNat = f.visibility.toNat ∧
      f.fit.toNat = (match e.fit with | .crop => 0 | .halve => 1 | .hide => 2)) ∧
    (let n := fun (x : Half) => x.toNat
     let source : Prop := n f.sx < 2400 ∧ n f.sy < 1680 ∧ 1 ≤ n f.sw ∧ n f.sw ≤ 2400 ∧ 1 ≤ n f.sh ∧ n f.sh ≤ 1680 ∧
       n f.sx + n f.sw ≤ 2400 ∧ n f.sy + n f.sh ≤ 1680
     let home : Prop := f.home.toNat ≤ 1 ∧ n f.hx < 1200 ∧ n f.hy < 1680
     let guest : Prop := f.guestPresent.toNat = 0 ∨ (f.guestPresent.toNat = 1 ∧ n f.gx < 1200 ∧ n f.gy < 1680)
     let span : Prop := f.spanPresent.toNat = 0 ∨ (f.spanPresent.toNat = 1 ∧ n f.px < 2400 ∧ n f.py < 1680)
     let style : Prop := f.priority.toNat ≤ 7 ∧ f.fit.toNat ≤ 2 ∧ f.visibility.toNat < 64
     (sourceGroup f = none ↔ ¬ source) ∧ (homeGroup f = none ↔ ¬ home) ∧ (guestGroup f = none ↔ ¬ guest) ∧
     (spanGroup f = none ↔ ¬ span) ∧ (styleGroup f = none ↔ ¬ style) ∧
     (entryOf f = none ↔ ¬ (source ∧ home ∧ guest ∧ span ∧ style)))

/-- ENTRY SET: RANGE above handle 31, ABSENT outside DRAFT, RANGE for an invalid selected group or a selection bit 6 or 7,
else each selected group replaced whole and the others kept (R58, R59, R179). -/
def Obligations.EntrySetWritesTheSelectedGroups : Prop :=
  ∀ (b selection : Byte) (f : RawEntry) (s : State), s.portOpen = true →
    (31 < b.toNat → exec (.entrySet b selection f) s = .next (s.hold ⟨.range, []⟩)) ∧
    (∀ h : Handle, b.toNat = h.val →
      (s.table.draft[h] = none → exec (.entrySet b selection f) s = .next (s.hold ⟨.absent, []⟩)) ∧
      (∀ e, s.table.draft[h] = some e →
        let pick := fun (n : Nat) => selection.getLsbD n
        let invalid : Prop := 64 ≤ selection.toNat ∨ (pick 0 = true ∧ sourceGroup f = none) ∨
          (pick 1 = true ∧ homeGroup f = none) ∨ (pick 2 = true ∧ guestGroup f = none) ∨
          (pick 3 = true ∧ spanGroup f = none) ∨ (pick 4 = true ∧ styleGroup f = none)
        (invalid → exec (.entrySet b selection f) s = .next (s.hold ⟨.range, []⟩)) ∧
        (¬ invalid → ∃ e' : Entry,
          exec (.entrySet b selection f) s = .next ((s.withDraft (s.table.draft.set h (some e'))).hold ⟨.done, []⟩) ∧
          (if pick 0 then sourceGroup f = some e'.source else e'.source = e.source) ∧
          (if pick 1 then homeGroup f = some (e'.home, e'.homeAt) else e'.home = e.home ∧ e'.homeAt = e.homeAt) ∧
          (if pick 2 then guestGroup f = some e'.guestAt else e'.guestAt = e.guestAt) ∧
          (if pick 3 then spanGroup f = some e'.spanAt else e'.spanAt = e.spanAt) ∧
          (if pick 4 then styleGroup f = some (e'.priority, e'.fit, e'.visibility)
            else e'.priority = e.priority ∧ e'.fit = e.fit ∧ e'.visibility = e.visibility) ∧
          (if pick 5 then e'.tag = f.tag else e'.tag = e.tag))))

/-- ENTRY RETIRE, TAG RETIRE and TAG FIND work on DRAFT alone: one handle, or every entry with the tag, its count, its
handles in ascending order (R60, R61, R64). -/
def Obligations.RetireAndFindWorkOnDraft : Prop :=
  ∀ s : State, s.portOpen = true →
    (∀ b : Byte,
      (31 < b.toNat → exec (.entryRetire b) s = .next (s.hold ⟨.range, []⟩)) ∧
      (∀ h : Handle, b.toNat = h.val →
        (s.table.draft[h] = none → exec (.entryRetire b) s = .next (s.hold ⟨.absent, []⟩)) ∧
        (s.table.draft[h].isSome = true →
          exec (.entryRetire b) s = .next ((s.withDraft (s.table.draft.set h none)).hold ⟨.done, []⟩)))) ∧
    (∀ tag : Half, ∃ found : List Handle,
      found.Pairwise (· < ·) ∧ (∀ h, h ∈ found ↔ ∃ e, s.table.draft[h] = some e ∧ e.tag = tag) ∧
      exec (.tagFind tag) s = .next (s.hold ⟨.done,
        BitVec.ofNat 8 found.length :: found.map fun h => BitVec.ofNat 8 h.val⟩) ∧
      ∃ v : View, (∀ h : Handle, v[h] = if h ∈ found then none else s.table.draft[h]) ∧
        exec (.tagRetire tag) s = .next ((s.withDraft v).hold ⟨.done, [BitVec.ofNat 8 found.length]⟩))

/-- TABLE PUBLISH makes the next generation from DRAFT, superseding a staged one; DRAFT REVERT copies STAGED, or CAPTURE
with none staged, and answers its generation (R62, R79). -/
def Obligations.PublishAndRevert : Prop :=
  ∀ s : State, s.portOpen = true →
    exec .tablePublish s = .next (({ s with table := { s.table with
        register := s.table.register + 1
        superseded := if s.table.staged.isSome then Count.bump s.table.superseded else s.table.superseded
        staged := some ⟨s.table.register + 1, s.table.draft⟩ } }).hold
      ⟨.done, byte4 (s.table.register + 1).toNat⟩) ∧
    (∀ p, s.table.staged = some p →
      exec .draftRevert s = .next ((s.withDraft p.view).hold ⟨.done, byte4 p.gen.toNat⟩)) ∧
    (s.table.staged = none →
      exec .draftRevert s = .next ((s.withDraft s.table.capture.view).hold ⟨.done, byte4 s.table.capture.gen.toNat⟩))

/-! ## Frame Store (chapter 4) -/

/-- A source frame start begins a frame in progress, counts a frame that it abandons or overwrites, with FRAME_LOSS, and
binds a staged generation to the frame (R72, R80). -/
def Obligations.SourceFrameStartBeginsAndBinds : Prop :=
  ∀ s : State, s.inReset = false →
    let t : State := { s with
      frame := { s.frame with captureState := .filling 0 false }
      table := match s.table.staged with
        | some p => { s.table with capture := p, staged := none }
        | none => s.table }
    (s.frame.captureState = .empty → exec .sourceFrameStart s = .next t) ∧
    (∀ n bad, s.frame.captureState = .filling n bad → exec .sourceFrameStart s =
      .next (({ t with frame := { t.frame with truncated := Count.bump s.frame.truncated } }).raise .frameLoss)) ∧
    (s.frame.captureState = .complete → exec .sourceFrameStart s =
      .next (({ t with frame := { t.frame with dropped := Count.bump s.frame.dropped } }).raise .frameLoss))

/-- Line ends and source frame ends: a line is counted up to 1680, marks a bad length or a line too many, and is stored as
its row, the rest of the bank kept; a frame end makes the bank COMPLETE, or discards a frame that is not well-formed with
FRAME_LOSS; with no frame in progress both are ignored (R71, R73; a listed line's further pixels are black, assumption 22). -/
def Obligations.LineAndFrameEndsFillTheCaptureBank : Prop :=
  ∀ s : State, s.inReset = false →
    (∀ (count : BitVec 12) (pixels : List Colour),
      (∀ n bad, s.frame.captureState = .filling n bad → n < 1680 → ∃ bank : Bank,
        exec (.lineEnd count pixels) s = .next { s with frame := { s.frame with
          captureState := .filling (n + 1) (bad || decide (count.toNat ≠ 2400)), capture := bank } } ∧
        (Bank.wf s.frame.capture = true → ∀ col row, Bank.pixel bank col row =
          if row = n ∧ col < count.toNat ∧ col < 2400 then pixels.getD col ⟨0, 0, 0⟩
          else Bank.pixel s.frame.capture col row)) ∧
      (∀ n bad, s.frame.captureState = .filling n bad → 1680 ≤ n →
        exec (.lineEnd count pixels) s = .next { s with frame := { s.frame with captureState := .filling n true } }) ∧
      ((∀ n bad, s.frame.captureState ≠ .filling n bad) → exec (.lineEnd count pixels) s = .next s)) ∧
    (∀ n bad, s.frame.captureState = .filling n bad →
      (n = 1680 → bad = false →
        exec .sourceFrameEnd s = .next { s with frame := { s.frame with captureState := .complete } }) ∧
      ((n ≠ 1680 ∨ bad = true) → exec .sourceFrameEnd s = .next (({ s with frame := { s.frame with
        captureState := .empty, malformed := Count.bump s.frame.malformed } }).raise .frameLoss))) ∧
    ((∀ n bad, s.frame.captureState ≠ .filling n bad) → exec .sourceFrameEnd s = .next s)

/-- An output frame start: the clock at the end of the period; a flip of a COMPLETE bank with CAPTURE shown, SHOWN set when
the generation changes, or a repeat, counted while FILLING; FRMREQ unless FILLING; then one composition of what then
stands, with REFLOW, HANDOVER and LAYER_OVERFLOW as it calls for. Of a panel it begins the frame by its state, enables the
layers of a LIVE one alone, and gives up a reply still awaited on a link with a pixel stream; no other flag, and nothing else
of the part, changes (R69, R75, R76, R82, R89, R104, R106, R117, R123, R125, R170). -/
def Obligations.OutputFrameStartFlipsOrRepeats : Prop :=
  ∀ s : State, s.inReset = false → ∃ t : State, exec .outputFrameStart s = .next t ∧
    let start := max s.now (s.frame.periodStart + s.frame.rate.period)
    let flip : Bool := s.frame.captureState.isComplete
    let sc : Scene := ⟨t.table.shown, s.posture.posture, s.posture.posture.map fun p => s.posture.profiles[p.number],
      s.panelA.state, s.panelB.state⟩
    t = { s with
      now := start, frame := t.frame, table := t.table, comp := t.comp, panelA := t.panelA, panelB := t.panelB
      port := { s.port with flags := t.port.flags } } ∧
    t.frame = { s.frame with
      periodStart := start
      scan := if flip then s.frame.capture else s.frame.scan
      scanCaptured := flip || s.frame.scanCaptured
      capture := if flip then s.frame.scan else s.frame.capture
      captureState := if flip then .empty else s.frame.captureState
      flips := if flip then Count.bump s.frame.flips else s.frame.flips
      repeats := if s.frame.captureState.lines?.isSome then Count.bump s.frame.repeats else s.frame.repeats
      frmreq := if s.frame.captureState.lines? = none then some start else none } ∧
    t.table = (if flip then { s.table with shown := s.table.capture } else s.table) ∧
    t.comp = s.comp.after sc ∧
    (∀ x, let u := s.panel x
      t.panel x = { u with
        run := (t.panel x).run, layersEnabled := decide (u.state = .live)
        frameRows := [⟨0, match u.state with | .live => .layers | .idle => .black | _ => .off⟩] } ∧
      (∀ r packetEnds lost, (u.state = .live ∨ u.state = .idle) → u.run = some r → r.phase = .awaitReply packetEnds lost →
        (t.panel x).run = some { r with phase := .awaitReply packetEnds true }) ∧
      (((u.state ≠ .live ∧ u.state ≠ .idle) ∨ ∀ r packetEnds lost, u.run = some r → r.phase ≠ .awaitReply packetEnds lost) →
        (t.panel x).run = u.run)) ∧
    (let joins : Prop := ∃ (h : Handle) (e : Entry), t.table.shown.view[h] = some e ∧ (sc.resolve e).provisional = true ∧
       h ∉ s.comp.reflow
     let moved : Prop := ∃ (h : Handle) (e : Entry) (q : PlacementPair), t.table.shown.view[h] = some e ∧
       s.comp.memory[h] = some q ∧ (sc.resolve e).pair ≠ q
     ∀ g, t.flagged g = true ↔ s.flagged g = true ∨
       (g = .shown ∧ flip = true ∧ s.table.capture.gen ≠ s.table.shown.gen) ∨ (g = .reflow ∧ joins) ∨
       (g = .handover ∧ moved) ∨ (g = .layerOverflow ∧ ∃ x, (t.comp.stackOf x).starved ≠ []))

/-- TIMING SET needs both panels DARK or FAULT, restarts the period and abandons the running frame; the FRMREQ pulse ends
2 µs after it rose; the output frame end falls 1000 µs before the next start and sends the command packet of each panel's
waiting SEND, READ or POLL, changing nothing else but the clock (R69, R70, R76, R161, R170). A pulse end without a pulse
changes nothing: the model's choice (assumption 4); how long a packet takes is a free value (assumption 5). -/
def Obligations.OutputTimingEvents : Prop :=
  (∀ r : FrameRate, r.active + 1000 = r.period ∧ r.period = (match r with | .hz60 => 16667 | .hz90 => 11111 | .hz120 => 8333)) ∧
  (∀ (b : Byte) (s : State), s.portOpen = true →
    let quiet : Prop := ∀ x, (s.panel x).state = .dark ∨ (s.panel x).state = .fault
    (b.toNat ≠ 60 → b.toNat ≠ 90 → b.toNat ≠ 120 → exec (.timingSet b) s = .next (s.hold ⟨.range, []⟩)) ∧
    (∀ r, rateOfByte b = some r → ¬ quiet → exec (.timingSet b) s = .next (s.hold ⟨.state, []⟩)) ∧
    (∀ r, rateOfByte b = some r → quiet → exec (.timingSet b) s = .next
      (({ s with
        frame := { s.frame with rate := r, periodStart := s.now }
        panelA := { s.panelA with frameRows := [] }
        panelB := { s.panelB with frameRows := [] } }).hold ⟨.done, []⟩)) ∧
    (∀ r, rateOfByte b = some r ↔ b.toNat = (match r with | .hz60 => 60 | .hz90 => 90 | .hz120 => 120))) ∧
  (∀ s : State, s.inReset = false →
    (∀ rose, s.frame.frmreq = some rose → exec .frmreqPulseEnd s = .next
      { s with now := max s.now (rose + 2), frame := { s.frame with frmreq := none } }) ∧
    (s.frame.frmreq = none → exec .frmreqPulseEnd s = .next s) ∧
    ∃ t : State, exec .outputFrameEnd s = .next t ∧
      t = { s with
        now := max s.now (s.frame.periodStart + s.frame.rate.active), panelA := t.panelA, panelB := t.panelB } ∧
      ∀ x, let u := s.panel x
        let waits := fun (r : Run) (code : Byte) (args : List Byte) =>
          (u.state = .live ∨ u.state = .idle) ∧ u.run = some r ∧ r.phase = .waitStart ∧
          (s.scripts.steps[r.index].body = .send code args ∨
            (args = [] ∧ ((∃ ps, s.scripts.steps[r.index].body = .read code ps) ∨
              ∃ ps interval timeout, s.scripts.steps[r.index].body = .poll code ps interval timeout)))
        (∀ r code args, waits r code args → t.panel x = { u with
          run := some { r with phase := .awaitReply (t.now + Config.linkPacketTime (linkPacket code args)) false }
          packet := linkPacket code args, packetCut := false }) ∧
        ((∀ r code args, ¬ waits r code args) → t.panel x = u))

/-! ## Composition Unit (chapters 5 and 6) -/

/-- The kind of a placement by the six tests in order (R90, R91), a fit of HIDE turning it into NONE, and the origin and target
tried (R92, R93). -/
def Obligations.PlacementKindByTheSixTests : Prop :=
  ∀ (sc : Scene) (e : Entry),
    let r := sc.resolve e
    let isNone := fun reason => r.kind = .none ∧ r.reason = some reason ∧ r.target = none ∧ r.provisional = false
    let isKind := fun k => (r.kind = k ∧ r.reason = none) ∨ (r.fit = some .hide ∧ r.kind = .none ∧ r.reason = some .hiddenByFit)
    (sc.posture = none → isNone .unsettled) ∧
    (∀ p, sc.posture = some p → e.visibility.getLsbD p.number = false → isNone .notVisible) ∧
    (∀ p, sc.posture = some p → e.visibility.getLsbD p.number = true →
      let live := fun x => sc.stateOf x = .live
      let spans : Prop := (∃ q, sc.profile = some q ∧ q.spanAllowed = true) ∧ live .a ∧ live .b
      (∀ o, e.spanAt = some o → spans → isKind .span ∧ r.origin = some ⟨.span, o⟩ ∧ r.target = some .span) ∧
      ((e.spanAt = none ∨ ¬ spans) →
        (live e.home → isKind .home ∧ r.origin = some ⟨.home, e.homeAt⟩ ∧ r.target = some (panelTarget e.home)) ∧
        (¬ live e.home → live (otherPanel e.home) →
          isKind .guest ∧ r.target = some (panelTarget (otherPanel e.home)) ∧
          (∀ o, e.guestAt = some o → r.origin = some ⟨.guest, o⟩) ∧
          (e.guestAt = none → r.origin =
            some ⟨.centred, ⟨(1200 - e.source.w) / 2, (1680 - e.source.h) / 2⟩⟩)) ∧
        (¬ live e.home → ¬ live (otherPanel e.home) → isNone .noLivePanel)))

/-- What every placement of a valid entry shows lies on its panel and takes its pixels from the entry's source; it is
fitting exactly when its destination lies inside the target, and else cropped, halved or hidden as the entry says, and
provisional (R94 to R97, R100, R101, R121 note 1). -/
def Obligations.PlacementsStayOnPanelAndInSource : Prop :=
  ∀ (sc : Scene) (e : Entry), e.valid = true →
    let r := sc.resolve e
    (∀ x p, r.part x = some p → ∃ sh, r.shown = some sh ∧ p.Within sh.step e) ∧
    (∀ t o, r.target = some t → r.origin = some o →
      (o.at_.x + e.source.w ≤ t.width ∧ o.at_.y + e.source.h ≤ 1680 → r.fit = some .none ∧ r.provisional = false ∧
        r.shown = some ⟨⟨⟨o.at_.x, o.at_.y, e.source.w, e.source.h⟩, ⟨e.source.x, e.source.y⟩⟩, 1⟩) ∧
      (¬ (o.at_.x + e.source.w ≤ t.width ∧ o.at_.y + e.source.h ≤ 1680) → r.provisional = true ∧
        (e.fit = .crop → r.fit = some .crop ∧ r.shown = some ⟨⟨⟨o.at_.x, o.at_.y, min e.source.w (t.width - o.at_.x),
          min e.source.h (1680 - o.at_.y)⟩, ⟨e.source.x, e.source.y⟩⟩, 1⟩) ∧
        (e.fit = .halve → r.fit = some .halve ∧ r.shown = some ⟨⟨⟨(t.width - (e.source.w + 1) / 2) / 2,
          (1680 - (e.source.h + 1) / 2) / 2, (e.source.w + 1) / 2, (e.source.h + 1) / 2⟩,
          ⟨e.source.x, e.source.y⟩⟩, 2⟩) ∧
        (e.fit = .hide → r.fit = some .hide ∧ r.shown = none ∧ r.kind = .none ∧ r.reason = some .hiddenByFit))) ∧
    (r.target = none → r.kind = .none ∧ r.provisional = false ∧ r.shown = none ∧ r.partA = none ∧ r.partB = none)

/-- A span placement is split at column 1200 with no column lost or shown twice, each part showing the canvas pixels that
the placement shows (R94, R99). -/
def Obligations.SpanSplitsAtTheFold : Prop :=
  ∀ sh : Shown, 1 ≤ sh.part.rect.w → 1 ≤ sh.part.rect.h →
    ∀ col row : Nat,
      let shows := fun (p : Part) (c r : Nat) => (p.start.x + sh.step * (c - p.rect.x), p.start.y + sh.step * (r - p.rect.y))
      (col < 1200 →
        ((∃ p, spanPartA sh = some p ∧ p.rect.Covers col row) ↔ sh.part.rect.Covers col row) ∧
        (∀ p, spanPartA sh = some p → p.rect.Covers col row → shows p col row = shows sh.part col row)) ∧
      (((∃ p, spanPartB sh = some p ∧ p.rect.Covers col row) ↔ sh.part.rect.Covers (col + 1200) row) ∧
        (∀ p, spanPartB sh = some p → p.rect.Covers col row → shows p col row = shows sh.part (col + 1200) row)) ∧
      (∀ p, spanPartA sh = some p → p.rect.Covers col row → col < 1200)

/-- At each composition the Reflow List keeps the provisional in order and takes the newly provisional in ascending order at
its end; REFLOW is set by a join, HANDOVER by a handle resolved twice running with different pairs, LAYER_OVERFLOW by a
starved handle (R102 to R104, R106, R107, R117). -/
def Obligations.CompositionListsAndFlags : Prop :=
  ∀ s : State,
    let sc := s.scene
    let t := s.compose
    let provisional := fun h : Handle => ∃ e, sc.shown.view[h] = some e ∧ (sc.resolve e).provisional = true
    (∃ joins : List Handle, joins.Pairwise (· < ·) ∧ (∀ h, h ∈ joins ↔ provisional h ∧ h ∉ s.comp.reflow) ∧
      (∃ stays : List Handle, stays.Sublist s.comp.reflow ∧ (∀ h, h ∈ stays ↔ provisional h ∧ h ∈ s.comp.reflow) ∧
        t.comp.reflow = stays ++ joins) ∧
      (t.flagged .reflow = true ↔ s.flagged .reflow = true ∨ joins ≠ [])) ∧
    (∀ h : Handle, t.comp.memory[h] = sc.shown.view[h].map fun e => (sc.resolve e).pair) ∧
    (t.flagged .handover = true ↔ s.flagged .handover = true ∨
      ∃ (h : Handle) (e : Entry) (q : PlacementPair), sc.shown.view[h] = some e ∧ s.comp.memory[h] = some q ∧
        (sc.resolve e).pair ≠ q) ∧
    (t.flagged .layerOverflow = true ↔ s.flagged .layerOverflow = true ∨
      ∃ x, (t.comp.stackOf x).starved ≠ []) ∧
    t = { s with comp := t.comp, panelA := t.panelA, panelB := t.panelB, port := { s.port with flags := t.port.flags } }

/-- The candidates of a panel are the entries of SHOWN with a part on it, ordered by priority, the lower handle first among
equals; the first six take the slots, the rest are starved and counted; the scan context holds what was read, the background
and rotation of the posture's profile, or black and no rotation with the posture NONE (R115, R116, R117, R120). -/
def Obligations.LayersTakeSlotsByPriority : Prop :=
  ∀ (sc : Scene) (x : Panel) (before : PanelStack),
    let c := sc.candidates x
    (∀ l : Layer, l ∈ c ↔ ∃ e p sh, sc.shown.view[l.handle] = some e ∧ (sc.resolve e).part x = some p ∧
      (sc.resolve e).shown = some sh ∧ l = ⟨l.handle, e.priority, p, sh.step⟩) ∧
    c.Pairwise (fun k l => l.priority < k.priority ∨ (l.priority = k.priority ∧ k.handle < l.handle)) ∧
    (sc.stack x before).stack ++ (c.drop 6) = c ∧ (sc.stack x before).stack.length ≤ 6 ∧
    (sc.stack x before).starved = (c.drop 6).map Layer.handle ∧
    (sc.stack x before).starvedTotal.toNat = min 65535 (before.starvedTotal.toNat + (c.length - 6)) ∧
    (sc.stack x before).context.gen = sc.shown.gen ∧ (sc.stack x before).context.panelState = sc.stateOf x ∧
    (∀ q, sc.profile = some q → (sc.stack x before).context.background = q.background ∧
      (sc.stack x before).context.turned = (match x with | .a => q.turnedA | .b => q.turnedB)) ∧
    (sc.profile = none → (sc.stack x before).context.background = ⟨0, 0, 0⟩ ∧ (sc.stack x before).context.turned = false) ∧
    (sc.stateOf x ≠ .live → c = [])

/-- What a panel's link carries for a row of the running frame: nothing without a stream, black in IDLE, the
background without layers, and with layers the pixel of the topmost layer that covers it, the panel turned as a whole;
nothing outside 1680 rows of 1200 pixels. At a moment of the active interval it carries the row whose time it is while
the stream lasts, in blanking nothing, and nothing in any part of the period outside LIVE and IDLE; the next row is
the first that has not begun. A panel state change enters the state, disables the layers of a LIVE panel, removes the
linger timer outside IDLE and announces LIVE, DARK and FAULT; outside LIVE and IDLE the stream ends at once, in the
middle of a row; it turns the rows from the next one on black, to the background or off when a stream is under way,
and begins none; the rows already sent keep their content through every event but the resets, a new frame and a TIMING
SET (R121 to R125, R137, R151; a row counts as sent when it began strictly before the moment of the change: assumption
18). -/
def Obligations.LinkCarriesTheTopmostLayer : Prop :=
  (∀ (s : State) (x : Panel) (col row : Nat), col < 1200 → row < 1680 →
    let p := s.comp.stackOf x
    let content := rowContent (s.panel x).frameRows row
    let c := if p.context.turned then 1199 - col else col
    let r := if p.context.turned then 1679 - row else row
    (content = .off → s.linkPixel x col row = none) ∧
    (content = .black → s.linkPixel x col row = some ⟨0, 0, 0⟩) ∧
    (content = .background → s.linkPixel x col row = some p.context.background) ∧
    (content = .layers →
      ((∀ l ∈ p.stack, ¬ l.part.rect.Covers c r) → s.linkPixel x col row = some p.context.background) ∧
      (∀ above l below, p.stack = above ++ l :: below → l.part.rect.Covers c r →
        (∀ k ∈ above, ¬ k.part.rect.Covers c r) →
        s.linkPixel x col row = some (Bank.pixel s.frame.scan
          (l.part.start.x + l.step * (c - l.part.rect.x)) (l.part.start.y + l.step * (r - l.part.rect.y)))))) ∧
  (∀ (s : State) (x : Panel) (col row : Nat), (1200 ≤ col ∨ 1680 ≤ row) → s.linkPixel x col row = none) ∧
  (∀ (s : State) (x : Panel) (col : Nat),
    let elapsed := s.now - s.frame.periodStart
    let active := s.frame.rate.active
    let u := s.panel x
    (active ≤ elapsed → s.linkPixelNow x col = none) ∧
    (((u.state ≠ .live ∧ u.state ≠ .idle) ∨ u.linkContent = .off) → s.linkPixelNow x col = none) ∧
    (∀ row, (u.state = .live ∨ u.state = .idle) → u.linkContent ≠ .off → row * active ≤ 1680 * elapsed → 1680 * elapsed < (row + 1) * active → row < 1680 →
      s.linkPixelNow x col = s.linkPixel x col row) ∧
    s.nextRow ≤ 1680 ∧ ∀ row, row < s.nextRow ↔ row < 1680 ∧ row * active < 1680 * elapsed) ∧
  (∀ (env : PanelEnv) (new : PanelState) (w : PanelWork), ∃ rows, w.enter env new = { w with
    notify := w.notify || decide (new = .live ∨ new = .dark ∨ new = .fault)
    unit := { w.unit with
      state := new, layersEnabled := w.unit.layersEnabled && decide (w.unit.state ≠ .live)
      linger := if new = .idle then w.unit.linger else .absent, frameRows := rows } } ∧
    (new ≠ .live → new ≠ .idle → (w.enter env new).unit.linkContent = .off)) ∧
  (∀ (env : PanelEnv) (new : PanelState) (w : PanelWork) (row : Nat),
    let rows := (w.enter env new).unit.frameRows
    (w.unit.linkContent = .off → rows = w.unit.frameRows) ∧
    (w.unit.linkContent ≠ .off →
      (row < env.nextRow → rowContent rows row = rowContent w.unit.frameRows row) ∧
      (env.nextRow ≤ row → rowContent rows row =
        match new with | .idle => .black | .live => .background | _ => .off))) ∧
  (∀ (c : Instr) (s t : State) (x : Panel) (row : Nat), exec c s = .next t → c ≠ .softReset → (∀ n, c ≠ .pinReset n) →
    c ≠ .outputFrameStart → (∀ b, c ≠ .timingSet b) →
    (row < s.nextRow → rowContent (t.panel x).frameRows row = rowContent (s.panel x).frameRows row) ∧
    (t.nextRow ≤ row → (t.panel x).frameRows = (s.panel x).frameRows ∨
      rowContent (t.panel x).frameRows row = (t.panel x).linkContent))

/-! ## Panel Controllers (chapter 7) -/

/-- Change events by panel state: the inputs replaced in every state; LIVE and IDLE move with demand and start, remove or
keep the linger timer, a run in flight going on; DARK wakes when wanted; the other states wait. Which run starts is said
for every script, and what it leaves for one that begins with a WAIT; RunGoesFromStepToStep says what the start of a run is
(R131, R133, R135 to R137). -/
def Obligations.ChangeEventsMoveThePanel : Prop :=
  ∀ (env : PanelEnv) (u : PanelUnit) (pair : Want),
    let v := { u with demandIn := pair.demand, wantedIn := pair.wanted }
    let w := u.changed env pair
    ((u.state = .waking ∨ u.state = .sleeping ∨ u.state = .fault ∨ (u.state = .dark ∧ pair.wanted = false) ∨
        (u.state = .live ∧ pair.demand = true)) → w = ⟨v, false, none⟩) ∧
    (u.state = .idle → pair.demand = true →
      w.unit.apartFromScanout = ({ v with state := .live, linger := .absent }).apartFromScanout ∧
        w.unit.layersEnabled = u.layersEnabled ∧ w.notify = true ∧ w.request = none) ∧
    ((u.state = .live ∨ u.state = .idle) → pair.demand = false → w.request = none ∧
      (pair.wanted = true → w.notify = false ∧
        w.unit.apartFromScanout = ({ v with state := .idle, linger := .absent }).apartFromScanout) ∧
      (pair.wanted = false → env.lingerTime ≠ 0 → w.notify = false ∧ w.unit.apartFromScanout =
        ({ v with state := .idle, linger := .running (env.now + 1000 * env.lingerTime) }).apartFromScanout) ∧
      (pair.wanted = false → env.lingerTime = 0 →
        (∀ r, u.run = some r → w.notify = false ∧
          w.unit.apartFromScanout = ({ v with state := .idle, linger := .held }).apartFromScanout) ∧
        (u.run = none → env.slots.sleep = none → w.notify = true ∧ w.unit.apartFromScanout =
          ({ v with state := .dark, linger := .absent, latched := false }).apartFromScanout) ∧
        (∀ i d, u.run = none → env.waitsAt .sleep i d → w.notify = false ∧ w.unit.apartFromScanout =
          ({ v with state := .sleeping, linger := .absent
                    run := firstStep .sleep i (.waiting (env.now + 1000 * d)) env.now }).apartFromScanout)) ∧
      (u.state = .live → w.unit.layersEnabled = false) ∧
      (pair.wanted = false → env.lingerTime = 0 → u.run = none →
        (u.state = .live → w = ((v.enters env .idle).enters env .sleeping).runs env .sleep false false) ∧
        (u.state = .idle → w = (v.enters env .sleeping).runs env .sleep false false))) ∧
    (u.state = .dark → pair.wanted = true → w = (v.enters env .waking).runs env .wake false false) ∧
    (u.state = .dark → pair.wanted = true → u.latched = false → w.request = none ∧
      (env.slots.wake = none → w.notify = pair.demand ∧ w.unit.run = none ∧ w.unit.linger = .absent ∧
        w.unit.state = if pair.demand then .live else .idle) ∧
      (∀ i d, env.waitsAt .wake i d → w.notify = false ∧ w.unit.apartFromScanout =
        ({ v with state := .waking, linger := .absent
                  run := firstStep .wake i (.waiting (env.now + 1000 * d)) env.now }).apartFromScanout))

/-- Completions of WAKE and SLEEP runs by the inputs held: LIVE, IDLE with or without the linger timer, with a linger time
of 0 through IDLE into SLEEPING, DARK, on to WAKING when wanted; a latched attention is cleared, and served by a CHECK run
when the panel is then LIVE or IDLE and the slot present; a failure faults the panel with its fields. Which run starts is
said for every script, and what it leaves for one that begins with a WAIT (a SEND for CHECK) or an absent slot;
RunGoesFromStepToStep says what the start of a run is (R133, R134, R137, R138, R141, R144, R145, R151). -/
def Obligations.WakeAndSleepRunsComplete : Prop :=
  ∀ (env : PanelEnv) (u : PanelUnit),
    (∀ (slot : ScriptSlot) (f : StepFailure), slot ≠ .check →
      let w := u.finish env slot (some f)
      w.notify = true ∧ w.request = none ∧
        u.FaultedFrom w.unit ⟨.script, u.state, some (f.slot, f.index, f.kind), some f.error⟩) ∧
    (let w := u.finish env .wake none
     let v := { u with run := none }
     let settled := { v with latched := false }
     let checked : Prop := u.latched = true ∧ env.slots.check.isSome = true
     u.state = .waking → w.request = none ∧
      -- demanded
      (u.demandIn = true →
        (¬ checked → w = ⟨settled.enters env .live, true, none⟩ ∧ w.unit.apartFromScanout =
          ({ settled with state := .live, linger := .absent }).apartFromScanout) ∧
        (checked → w = (settled.enters env .live).runs env .check true true) ∧
        (∀ i code args, u.latched = true → env.slots.check = some i → env.steps[i].body = .send code args →
          w.notify = true ∧ w.unit.apartFromScanout = ({ settled with
            state := .live, run := firstStep .check i .waitStart env.now true, linger := .absent }).apartFromScanout)) ∧
      -- not demanded, the panel staying in IDLE
      (u.demandIn = false → (u.wantedIn = true ∨ env.lingerTime ≠ 0) →
        let timer : Linger := if u.wantedIn then .absent else .running (env.now + 1000 * env.lingerTime)
        let idle := { settled.enters env .idle with linger := timer }
        (¬ checked → w = ⟨idle, false, none⟩ ∧ w.unit.apartFromScanout =
          ({ settled with state := .idle, linger := timer }).apartFromScanout) ∧
        (checked → w = idle.runs env .check true false) ∧
        (∀ i code args, u.latched = true → env.slots.check = some i → env.steps[i].body = .send code args →
          w.notify = false ∧ w.unit.apartFromScanout = ({ settled with
            state := .idle, run := firstStep .check i .waitStart env.now true, linger := timer }).apartFromScanout)) ∧
      -- not wanted, the linger time 0: into SLEEPING in the same completion, no CHECK run for a latched attention
      (u.demandIn = false → u.wantedIn = false → env.lingerTime = 0 →
        w = ((settled.enters env .idle).enters env .sleeping).runs env .sleep true false ∧
        (∀ i d, env.waitsAt .sleep i d → w.notify = false ∧ w.unit.apartFromScanout = ({ settled with
          state := .sleeping, linger := .absent
          run := firstStep .sleep i (.waiting (env.now + 1000 * d)) env.now true }).apartFromScanout) ∧
        (env.slots.sleep = none → w.notify = true ∧ w.unit.apartFromScanout =
          ({ settled with state := .dark, linger := .absent }).apartFromScanout))) ∧
    (let w := u.finish env .sleep none
     let settled := { u with run := none, latched := false }
     w.notify = true ∧ w.request = none ∧
      (u.wantedIn = false → w = ⟨settled.enters env .dark, true, none⟩ ∧ w.unit.apartFromScanout =
        ({ settled with state := .dark, linger := .absent }).apartFromScanout) ∧
      (u.wantedIn = true → w = ((settled.enters env .dark).enters env .waking).runs env .wake true true) ∧
      (∀ i d, u.wantedIn = true → env.waitsAt .wake i d → w.unit.apartFromScanout = ({ settled with
        state := .waking, run := firstStep .wake i (.waiting (env.now + 1000 * d)) env.now true
        linger := .absent }).apartFromScanout) ∧
      (u.wantedIn = true → env.slots.wake = none → w.unit.apartFromScanout =
        ({ settled with state := if u.demandIn then .live else .idle, linger := .absent }).apartFromScanout))

/-- Completions of CHECK runs in LIVE or IDLE: a success keeps the panel, a held linger expiry then putting it to sleep; a
failure counts a recovery in its window of 10 s and wakes the panel again, or at the third faults it. Which run starts is
said for every script, and what it leaves for one that begins with a WAIT or an absent slot; RunGoesFromStepToStep says what
the start of a run is (R132, R134, R137, R138, R142, R145). -/
def Obligations.CheckRunsRecoverOrFault : Prop :=
  ∀ (env : PanelEnv) (u : PanelUnit),
    (u.linger ≠ .held → u.finish env .check none = ⟨{ u with run := none }, false, none⟩) ∧
    (u.linger = .held →
      let w := u.finish env .check none
      w = (({ u with run := none }).enters env .sleeping).runs env .sleep true false ∧
      (∀ i d, env.waitsAt .sleep i d → w.notify = false ∧ w.unit.apartFromScanout = ({ u with
        state := .sleeping, linger := .absent
        run := firstStep .sleep i (.waiting (env.now + 1000 * d)) env.now true }).apartFromScanout) ∧
      (env.slots.sleep = none → u.wantedIn = false → w.notify = true ∧ w.request = none ∧ w.unit.apartFromScanout =
        ({ u with state := .dark, linger := .absent, run := none, latched := false }).apartFromScanout)) ∧
    (∀ f : StepFailure,
      let w := u.finish env .check (some f)
      let n := match u.recoveryWindow with | none => 1 | some _ => u.recoveryCount + 1
      let closes := match u.recoveryWindow with | none => env.now + 10000000 | some t => t
      let recovering := { u with
        run := none, linger := .absent, recoveryCount := n, recoveryWindow := some closes
        recoveries := Count.bump u.recoveries }
      (3 ≤ n → w.notify = true ∧ ({ u with recoveryCount := n, recoveryWindow := some closes }).FaultedFrom w.unit
        ⟨.recoveryLimit, u.state, some (f.slot, f.index, f.kind), some f.error⟩) ∧
      (n < 3 → w = (recovering.enters env .waking).runs env .wake true false ∧
        (∀ i d, env.waitsAt .wake i d → w.notify = false ∧ w.unit.apartFromScanout = ({ recovering with
          state := .waking
          run := firstStep .wake i (.waiting (env.now + 1000 * d)) env.now true }).apartFromScanout) ∧
        (env.slots.wake = none → u.latched = false → w.request = none ∧
          (u.demandIn = true → w.notify = true ∧
            w.unit.apartFromScanout = ({ recovering with state := .live }).apartFromScanout) ∧
          (u.demandIn = false → u.wantedIn = true → w.notify = false ∧
            w.unit.apartFromScanout = ({ recovering with state := .idle }).apartFromScanout) ∧
          (u.demandIn = false → u.wantedIn = false → env.lingerTime ≠ 0 → w.notify = false ∧
            w.unit.apartFromScanout = ({ recovering with
              state := .idle, linger := .running (env.now + 1000 * env.lingerTime) }).apartFromScanout))))

/-- An attention is a change of the line from released to asserted: counted in every state, latched in WAKING and
SLEEPING, and in LIVE or IDLE with no run it starts a CHECK run from a present slot, whatever its script, a first SEND
waiting for blanking; RunGoesFromStepToStep says what the start of a run is. The release and a line held asserted
change the line alone, and so does the line while RESETN is low (R141, R170). -/
def Obligations.AttentionIsCountedLatchedOrServed : Prop :=
  ∀ (x : Panel) (s : State),
    let u := s.panel x
    let counted := { u with attentionLine := true, attentions := Count.bump u.attentions }
    exec (.attentionLineRelease x) s = .next (s.setPanel x { u with attentionLine := false }) ∧
    ((s.inReset = true ∨ u.attentionLine = true) →
      exec (.attention x) s = .next (s.setPanel x { u with attentionLine := true })) ∧
    (s.inReset = false → u.attentionLine = false →
      ((u.state = .dark ∨ u.state = .fault ∨
          (u.state.streams = true ∧ (u.run.isSome = true ∨ (s.scripts.slots x).check = none))) →
        exec (.attention x) s = .next (s.setPanel x counted)) ∧
      ((u.state = .waking ∨ u.state = .sleeping) →
        exec (.attention x) s = .next (s.setPanel x { counted with latched := true })) ∧
      (u.state.streams = true → u.run = none → (s.scripts.slots x).check.isSome = true →
        let w := counted.runs (s.panelEnv x) .check false false
        exec (.attention x) s = .next ((s.setPanel x w.unit).raiseIf w.notify (panelFlag x))) ∧
      (∀ i code args, u.state.streams = true → u.run = none → (s.scripts.slots x).check = some i →
        s.scripts.steps[i].body = .send code args → exec (.attention x) s = .next (s.setPanel x
          { counted with run := firstStep .check i .waitStart s.now })))

/-- The linger expiry puts an idle panel to sleep, or is held behind a CHECK run; the recovery window's close empties the
count; without a running timer neither changes anything. The SLEEP run starts whatever its script, and what it leaves is
said for one that begins with a WAIT or an absent slot; RunGoesFromStepToStep says what the start of a run is (R137, R143;
assumption 4 for an event without a timer). -/
def Obligations.LingerExpiryAndWindowClose : Prop :=
  ∀ (x : Panel) (s : State), s.inReset = false →
    let u := s.panel x
    ((∀ t, u.linger ≠ .running t) → exec (.lingerExpiry x) s = .next s) ∧
    (∀ t r, u.linger = .running t → u.run = some r →
      exec (.lingerExpiry x) s = .next (({ s with now := max s.now t }).setPanel x { u with linger := .held })) ∧
    (∀ t, u.linger = .running t → u.run = none →
      let at_ : State := { s with now := max s.now t }
      let w := (u.enters (at_.panelEnv x) .sleeping).runs (at_.panelEnv x) .sleep false false
      exec (.lingerExpiry x) s = .next ((at_.setPanel x w.unit).raiseIf w.notify (panelFlag x))) ∧
    (∀ t i d, u.linger = .running t → u.run = none → (s.panelEnv x).waitsAt .sleep i d → ∃ u' : PanelUnit,
      exec (.lingerExpiry x) s = .next (({ s with now := max s.now t }).setPanel x u') ∧
      u'.apartFromScanout = ({ u with state := .sleeping, linger := .absent
                                      run := firstStep .sleep i (.waiting (max s.now t + 1000 * d)) (max s.now t) }).apartFromScanout) ∧
    (∀ t, u.linger = .running t → u.run = none → u.wantedIn = false → (s.scripts.slots x).sleep = none →
      ∃ u' : PanelUnit,
        exec (.lingerExpiry x) s = .next ((({ s with now := max s.now t }).setPanel x u').raise (panelFlag x)) ∧
        u'.apartFromScanout = ({ u with state := .dark, linger := .absent, latched := false }).apartFromScanout) ∧
    (u.recoveryWindow = none → exec (.recoveryWindowClose x) s = .next s) ∧
    (∀ t, u.recoveryWindow = some t → exec (.recoveryWindowClose x) s =
      .next (({ s with now := max s.now t }).setPanel x { u with recoveryCount := 0, recoveryWindow := none }))

/-- PANEL STOP, RESTART, CHECK and CONFIG: their refusals, and what each does to its panel (R139, R147 to R149;
assumption 15 for STARTED with a present slot). STOP records the step under way of the run it aborts, or the run's
first step when a completion of this moment started it (R148; what counts as together is assumption 24), and cuts
short a command packet that is still being sent (R171; how long a packet takes is a free value, assumption 5). Which
run starts is said for every script, and what it leaves for a WAKE that begins with a WAIT or is absent and a CHECK
that begins with a SEND; RunGoesFromStepToStep says what the start of a run is. -/
def Obligations.PanelCommandsAct : Prop :=
  ∀ s : State, s.portOpen = true →
    (∀ x now, (s.panel x).sending now = true ↔
      ∃ r packetEnds lost, (s.panel x).run = some r ∧ r.phase = .awaitReply packetEnds lost ∧ now < packetEnds) ∧
    (∀ b : Byte, 1 < b.toNat →
      exec (.panelStop b) s = .next (s.hold ⟨.range, []⟩) ∧ exec (.panelRestart b) s = .next (s.hold ⟨.range, []⟩) ∧
      exec (.panelCheck b) s = .next (s.hold ⟨.range, []⟩)) ∧
    (∀ linger : Half, exec (.panelConfig linger) s =
      .next (({ s with lingerTime := min 10000 linger.toNat }).hold ⟨.done, byte2 (min 10000 linger.toNat)⟩)) ∧
    (∀ (b : Byte) (x : Panel), panelOfByte b = some x →
      let u := s.panel x
      let cleared := { u with faultRecord := none, recoveryCount := 0, recoveryWindow := none, linger := .absent }
      let env := s.panelEnv x
      let after := fun (w : PanelWork) => (s.setPanel x w.unit).raiseIf w.notify (panelFlag x)
      let step := fun (r : Run) => match r.completionStart with
        | some (first, startedAt) => if startedAt = s.now then first else r.index
        | none => r.index
      (u.state = .fault → exec (.panelStop b) s = .next (s.hold ⟨.done, []⟩)) ∧
      (u.state ≠ .fault → ∃ u' : PanelUnit,
        u.FaultedFrom u' ⟨.stopped, u.state,
          u.run.map (fun r => (r.slot, step r, s.scripts.steps[step r].body.kind)), none⟩ (u.sending s.now) ∧
        exec (.panelStop b) s = .next (((s.setPanel x u').raise (panelFlag x)).hold ⟨.done, []⟩)) ∧
      (u.state ≠ .fault → exec (.panelRestart b) s = .next (s.hold ⟨.state, []⟩)) ∧
      (u.state = .fault → u.wantedIn = false → ∃ u' : PanelUnit,
        u'.apartFromScanout = ({ cleared with state := .dark }).apartFromScanout ∧
        exec (.panelRestart b) s = .next (((s.setPanel x u').raise (panelFlag x)).hold ⟨.done, []⟩)) ∧
      (u.state = .fault → u.wantedIn = true → exec (.panelRestart b) s = .next
        ((after ((cleared.enters env .waking).runs env .wake false false)).hold
          ⟨if (s.scripts.slots x).wake.isSome then .started else .done, []⟩)) ∧
      (u.state = .fault → u.wantedIn = true → u.demandIn = false → u.latched = false → (s.scripts.slots x).wake = none →
        ∃ u' : PanelUnit, u'.apartFromScanout = ({ cleared with state := .idle, run := none }).apartFromScanout ∧
        exec (.panelRestart b) s = .next ((s.setPanel x u').hold ⟨.done, []⟩)) ∧
      (∀ i d, u.state = .fault → u.wantedIn = true → (s.panelEnv x).waitsAt .wake i d → ∃ u' : PanelUnit,
        u'.apartFromScanout = ({ cleared with
          state := .waking, run := firstStep .wake i (.waiting (s.now + 1000 * d)) s.now }).apartFromScanout ∧
        exec (.panelRestart b) s = .next ((s.setPanel x u').hold ⟨.started, []⟩)) ∧
      (u.state = .fault → u.wantedIn = true → u.demandIn = true → u.latched = false → (s.scripts.slots x).wake = none →
        ∃ u' : PanelUnit, u'.apartFromScanout = ({ cleared with state := .live, run := none }).apartFromScanout ∧
        exec (.panelRestart b) s = .next (((s.setPanel x u').raise (panelFlag x)).hold ⟨.done, []⟩)) ∧
      (u.state.streams = false → exec (.panelCheck b) s = .next (s.hold ⟨.state, []⟩)) ∧
      (u.state.streams = true → u.run.isSome = true → exec (.panelCheck b) s = .next (s.hold ⟨.busy, []⟩)) ∧
      (u.state.streams = true → u.run = none → (s.scripts.slots x).check = none →
        exec (.panelCheck b) s = .next (s.hold ⟨.done, []⟩)) ∧
      (u.state.streams = true → u.run = none → (s.scripts.slots x).check.isSome = true → exec (.panelCheck b) s = .next
        ((after (u.runs env .check false false)).hold ⟨.started, []⟩)) ∧
      (∀ i code args, u.state.streams = true → u.run = none → (s.scripts.slots x).check = some i →
        s.scripts.steps[i].body = .send code args → exec (.panelCheck b) s = .next
          ((s.setPanel x { u with run := firstStep .check i .waitStart s.now }).hold ⟨.started, []⟩)))

/-! ## Script Engines (chapter 8) -/

/-- The five events of a run reach the step under way at the moment its wait falls due, and nothing else: a reply is
judged only while it is awaited, within its blanking; 2 ms end the wait with NO_REPLY; a WAIT goes on; a POLL reads
again or runs out (R161, R165, R166, R169, R170; assumption 4 for an event with no wait under way, assumption 5 for
the time a packet takes and a reply that arrives while it is being sent, assumption 8 for a POLL that runs out while
its read waits for blanking). -/
def Obligations.RunEventsReachTheStepUnderWay : Prop :=
  ∀ (x : Panel) (s : State) (packet : List Byte), s.inReset = false →
    let at_ := fun (t : Nat) => ({ s with now := max s.now t } : State)
    ((s.panel x).run = none → exec (.panelLinkReply x packet) s = .next s ∧ exec (.replyTimeout x) s = .next s ∧
      exec (.waitEnd x) s = .next s ∧ exec (.pollReadDue x) s = .next s ∧ exec (.pollTimeout x) s = .next s) ∧
    (∀ r, (s.panel x).run = some r →
      (∀ reply packetEnds, r.phase = .awaitReply packetEnds false → validReply packet = some reply →
        exec (.panelLinkReply x packet) s = .next (s.onPanel x fun env w => w.judgeReply env r reply)) ∧
      (((∀ packetEnds, r.phase ≠ .awaitReply packetEnds false) ∨ validReply packet = none) →
        exec (.panelLinkReply x packet) s = .next s) ∧
      (∀ packetEnds lost, r.phase = .awaitReply packetEnds lost →
        exec (.replyTimeout x) s = .next ((at_ (packetEnds + 2000)).onPanel x fun env w => w.stepError env r .noReply) ∧
        exec (.waitEnd x) s = .next s ∧ exec (.pollReadDue x) s = .next s) ∧
      (∀ t, r.phase = .waiting t →
        exec (.waitEnd x) s = .next ((at_ t).onPanel x fun env w => w.goOn env r) ∧
        exec (.replyTimeout x) s = .next s ∧ exec (.pollReadDue x) s = .next s) ∧
      (∀ code ps interval timeout, s.scripts.steps[r.index].body = .poll code ps interval timeout →
        (∀ packetEnds lost, r.phase = .awaitReply packetEnds lost →
          exec (.pollTimeout x) s = .next (at_ (r.pollBegan + 1000 * timeout))) ∧
        (r.phase = .waitStart →
          exec (.pollTimeout x) s = .next ((at_ (r.pollBegan + 1000 * timeout)).onPanel x
            fun env w => w.stepError env r .pollTimeout)) ∧
        (∀ t, r.phase = .pollGap t →
          exec (.pollTimeout x) s = .next ((at_ (r.pollBegan + 1000 * timeout)).onPanel x
            fun env w => w.stepError env r .pollTimeout) ∧
          ((s.panel x).state.streams = true → exec (.pollReadDue x) s =
            .next ((at_ t).setPanel x { s.panel x with run := some { r with phase := .waitStart } })) ∧
          ((s.panel x).state.streams = false → exec (.pollReadDue x) s = .next ((at_ t).setPanel x
            { s.panel x with
              run := some { r with
                phase := .awaitReply (max s.now t + Config.linkPacketTime (linkPacket code [])) false }
              packet := linkPacket code [], packetCut := false })))) ∧
      ((∀ code ps interval timeout, s.scripts.steps[r.index].body ≠ .poll code ps interval timeout) →
        exec (.pollTimeout x) s = .next s))

/-- What the start of a run is: a run of an absent slot completes at once as a success, one of a present slot begins
the step at its index with 512 steps to go; the runs that follow in the event start in the same way. That a run keeps
its first index and start moment when a completion asked for it is the model's choice (assumption 24). How each step
begins, in the order of the run: the packet sent at once or waiting for blanking, a WAIT, a LINE, a GOTO, an END; what
follows a step; RUNAWAY after the 512th step and past index 255; tolerated errors (R132, R155, R160, R161, R163 to
R170; how long a packet takes is a free value, assumption 5). -/
def Obligations.RunGoesFromStepToStep : Prop :=
  ∀ (env : PanelEnv) (slot : ScriptSlot) (i : StepIndex) (w : PanelWork),
    (∀ (byCompletion notify : Bool) (u : PanelUnit),
      let v : PanelWork := ⟨u, notify, none⟩
      let started := u.runs env slot byCompletion notify
      let begun := v.beginStep env slot 512 i
      let kept : PanelWork := { begun with unit := { begun.unit with
        run := begun.unit.run.map fun r => { r with completionStart := some (i, env.now) } } }
      (env.slots.get slot = none → started = (v.completed env slot none).settle env 8) ∧
      (env.slots.get slot = some i → started = (if byCompletion then kept else begun).settle env 8) ∧
      started.request = none) ∧
    (∀ q : RunRequest, w.request = some q → w.settle env 8 = w.unit.runs env q.slot q.byCompletion w.notify) ∧
    (w.request = none → w.settle env 8 = w) ∧
    (∀ failure q, (w.completed env slot failure).request = some q → q.byCompletion = true) ∧
    (∀ left, left < 512 →
      let run := fun phase => some (⟨slot, i, 512 - left, phase, env.now, none⟩ : Run)
      let begun := w.beginStep env slot (left + 1) i
      let packet := fun (code : Byte) (args : List Byte) =>
        0x01#8 :: code :: BitVec.ofNat 8 args.length :: args ++
          [crc8 (0x01#8 :: code :: BitVec.ofNat 8 args.length :: args)]
      (∀ code args, (env.steps[i].body = .send code args ∨
          (args = [] ∧ ∃ ps, env.steps[i].body = .read code ps ∨ ∃ d t, env.steps[i].body = .poll code ps d t)) →
        (w.unit.state.streams = true → begun = { w with unit := { w.unit with run := run .waitStart } }) ∧
        (w.unit.state.streams = false → begun = { w with unit := { w.unit with
          run := run (.awaitReply (env.now + Config.linkPacketTime (packet code args)) false)
          packet := packet code args, packetCut := false } })) ∧
      (∀ d, env.steps[i].body = .wait d →
        begun = { w with unit := { w.unit with run := run (.waiting (env.now + 1000 * d)) } }) ∧
      (∀ which level, env.steps[i].body = .line which level →
        let driven := { w with unit := { w.unit with
          resetAsserted := if which = PanelLine.reset then level else w.unit.resetAsserted
          powerAsserted := if which = PanelLine.power then level else w.unit.powerAsserted } }
        (∀ j : StepIndex, j.val = i.val + 1 → begun = driven.beginStep env slot left j) ∧
        (i.val = 255 → begun = driven.completed env slot (some ⟨slot, i, .line, .runaway⟩))) ∧
      (∀ target, env.steps[i].body = .goto target → begun = w.beginStep env slot left target) ∧
      (env.steps[i].body = .finish → begun = w.completed env slot none)) ∧
    w.beginStep env slot 0 i = w.completed env slot (some ⟨slot, i, env.steps[i].body.kind, .runaway⟩) ∧
    (∀ r : Run, r.slot = slot → r.index = i →
      (∀ j : StepIndex, j.val = i.val + 1 → w.goOn env r = w.beginStep env slot (512 - r.count) j) ∧
      (i.val = 255 → w.goOn env r = w.completed env slot (some ⟨slot, i, env.steps[i].body.kind, .runaway⟩)) ∧
      (∀ e, let f : StepFailure := ⟨slot, i, env.steps[i].body.kind, e⟩
        (env.steps[i].tolerate = true →
          w.stepError env r e = ({ w with unit := { w.unit with tolerated := some f } }).goOn env r) ∧
        (env.steps[i].tolerate = false → w.stepError env r e = w.completed env slot (some f))))

/-- Link packets and the judgement of a valid reply by step kind, byte by byte under mask and value, with the misses of a
POLL (R161, R162, R164, R165). -/
def Obligations.RepliesAreJudgedByStepKind : Prop :=
  (∀ body : List Byte, body ≠ [] →
    validReply (body ++ [crc8 body]) = some (linkReplyOf body) ∧ ∀ c, c ≠ crc8 body → validReply (body ++ [c]) = none) ∧
  (linkReplyOf [0x02#8] = .ack) ∧
  (∀ bytes : List Byte, 1 ≤ bytes.length → bytes.length ≤ 8 →
    linkReplyOf (0x03#8 :: BitVec.ofNat 8 bytes.length :: bytes) = .data bytes) ∧
  (∀ e : BitVec 4, linkReplyOf [0x04#8, e.setWidth 8] = .report e) ∧
  (∀ e : Byte, 16 ≤ e.toNat → linkReplyOf [0x04#8, e] = .other) ∧
  (∀ (env : PanelEnv) (r : Run) (w : PanelWork),
    let judge := fun reply => w.judgeReply env r reply
    let err := fun e => w.stepError env r e
    (∀ e, judge (.report e) = err (.reported e)) ∧
    (judge .other = err .protocol) ∧
    (∀ code args, env.steps[r.index].body = .send code args →
      judge .ack = w.goOn env r ∧ ∀ bytes, judge (.data bytes) = err .protocol) ∧
    (∀ code ps, env.steps[r.index].body = .read code ps →
      judge .ack = err .protocol ∧ ∀ bytes,
        (bytes.length ≠ ps.length → judge (.data bytes) = err .protocol) ∧
        (bytes.length = ps.length →
          ((∀ q ∈ bytes.zip ps, q.1 &&& q.2.1 = q.2.2) → judge (.data bytes) = w.goOn env r) ∧
          ((∃ q ∈ bytes.zip ps, q.1 &&& q.2.1 ≠ q.2.2) → judge (.data bytes) = err .mismatch))) ∧
    (∀ code ps interval timeout, env.steps[r.index].body = .poll code ps interval timeout →
      judge .ack = err .protocol ∧ ∀ bytes,
        (bytes.length ≠ ps.length → judge (.data bytes) = err .protocol) ∧
        (bytes.length = ps.length →
          ((∀ q ∈ bytes.zip ps, q.1 &&& q.2.1 = q.2.2) → judge (.data bytes) = w.goOn env r) ∧
          ((∃ q ∈ bytes.zip ps, q.1 &&& q.2.1 ≠ q.2.2) →
            (r.pollBegan + 1000 * timeout ≤ env.now → judge (.data bytes) = err .pollTimeout) ∧
            (env.now < r.pollBegan + 1000 * timeout → judge (.data bytes) = { w with unit := { w.unit with
              run := some { r with phase := .pollGap (env.now + 1000 * interval) } } })))))

/-- SCRIPT WRITE and SLOT SET: values first, then runs in flight, else all the steps, or the one entry, written. The 14 bytes
of a step name none exactly when a field is outside R154 or a reserved bit is set; and every step that can be written reads
back as the bytes written, those not used by its kind sent as zero, and these write the same step (R154 to R158, R179,
R180). -/
def Obligations.ScriptMemoryIsWrittenWhole : Prop :=
  (∀ (start : Byte) (raw : List RawStep) (s : State), s.portOpen = true →
    let invalid : Prop := raw = [] ∨ 4 < raw.length ∨ 256 < start.toNat + raw.length ∨ ∃ r ∈ raw, stepOf r = none
    (invalid → exec (.scriptWrite start raw) s = .next (s.hold ⟨.range, []⟩)) ∧
    (¬ invalid → s.runInFlight = true → exec (.scriptWrite start raw) s = .next (s.hold ⟨.busy, []⟩)) ∧
    (¬ invalid → s.runInFlight = false → ∃ steps : Vector Step 256,
      exec (.scriptWrite start raw) s =
        .next (({ s with scripts := { s.scripts with steps := steps } }).hold ⟨.done, []⟩) ∧
      ∀ i : StepIndex, (i.val < start.toNat ∨ start.toNat + raw.length ≤ i.val → steps[i] = s.scripts.steps[i]) ∧
        ∀ k r, raw[k]? = some r → i.val = start.toNat + k → stepOf r = some steps[i])) ∧
  (∀ (bx bs bp bi : Byte) (s : State), s.portOpen = true →
    ((1 < bx.toNat ∨ 2 < bs.toNat ∨ 1 < bp.toNat) →
      exec (.slotSet bx bs bp bi) s = .next (s.hold ⟨.range, []⟩)) ∧
    (∀ x slot, panelOfByte bx = some x → slotOfByte bs = some slot → bp.toNat ≤ 1 →
      (s.runInFlight = true → exec (.slotSet bx bs bp bi) s = .next (s.hold ⟨.busy, []⟩)) ∧
      (s.runInFlight = false → ∃ m : ScriptMemory,
        exec (.slotSet bx bs bp bi) s = .next (({ s with scripts := m }).hold ⟨.done, []⟩) ∧ m.steps = s.scripts.steps ∧
        ∀ y sl, (m.slots y).get sl =
          if y = x ∧ sl = slot then (if bp.toNat = 1 then some bi.toFin else none) else (s.scripts.slots y).get sl))) ∧
  (∀ r : RawStep,
    let b := fun (i : Fin 14) => (r[i]).toNat
    let kind := b 0 % 8
    let wide := b 12 + 256 * b 13
    let d := b 1 + 256 * b 2
    (stepOf r = none ↔ b 0 / 8 % 16 ≠ 0 ∨ kind = 7 ∨ (kind = 0 ∧ 8 < b 2) ∨
      ((kind = 1 ∨ kind = 2) ∧ (b 2 = 0 ∨ 4 < b 2)) ∨ (kind = 2 ∧ (b 11 = 0 ∨ wide = 0 ∨ 2000 < wide)) ∨
      (kind = 3 ∧ (d = 0 ∨ 2000 < d)) ∨ (kind = 4 ∧ (1 < b 1 ∨ 1 < b 2))) ∧
    (∀ st, stepOf r = some st →
      let used := fun (i : Nat) => i = 0 ∨ match kind with
        | 0 => i < 3 + b 2
        | 1 => i < 3 + b 2 ∨ (7 ≤ i ∧ i < 7 + b 2)
        | 2 => i < 3 + b 2 ∨ (7 ≤ i ∧ i < 7 + b 2) ∨ 11 ≤ i
        | 3 => i ≤ 2
        | 4 => i ≤ 2
        | 5 => i ≤ 1
        | _ => False
      ∃ r' : RawStep, st.bytes = r'.toList ∧ stepOf r' = some st ∧
        ∀ i : Fin 14, (used i.val → r'[i] = r[i]) ∧ (¬ used i.val → r'[i] = 0#8)))

/-! ## Read commands -/

/-- The reads that answer DONE in every state change nothing but the held reply, and carry the fields of R20, R22, R28, R46,
R86, R105 and R127 in the order of their rules, each at the width of R179 (NOTIFY READ and IDENTIFY: see
AlertNotifyReadAndIdentify). That the settings of HINGE READ and POSTURE READ take two bytes, the order of the fields given
for each pivot or panel, and which fields share one present byte are the model's reading (assumptions 11, 13, 14). -/
def Obligations.PlainReadsAnswerDone : Prop :=
  ∀ s : State, s.portOpen = true →
    let answers := fun (c : Instr) (fields : List (List Byte)) => exec c s = .next (s.hold ⟨.done, fields.flatten⟩)
    let yes := fun (b : Bool) => [if b then 1#8 else 0#8]
    let onOff := fun (b : Bool) => [if b then 0#8 else 1#8]
    let count := fun (c : Count) => byte2 c.toNat
    let gen := fun (g : Gen) => byte4 g.toNat
    (∀ c, isPlainRead c = true → ∃ data : List Byte, exec c s = .next (s.hold ⟨.done, data⟩)) ∧
    (let h := s.hinge
     let filter : Option Nat := match h.angle with
       | .acquiring => none | .tracking f => some f | .faulted f _ _ => some f
     let raw := fun (p : PivotState) => optional 2 (fun r : RawCount => byte2 r.toNat) p.lastGood
     let delta := fun (p : PivotState) => optional 2 (fun d : Int => byte2 (d % 65536).toNat) p.delta
     answers .hingeRead [
       [match h.angle with | .acquiring => 0#8 | .tracking _ => 1#8 | .faulted _ _ _ => 2#8],
       optional 2 byte2 (filter.map fun f => (f + 128) / 256), optional 4 byte4 filter, optional 2 byte2 h.instant,
       [match h.angle with
         | .faulted _ g _ => BitVec.ofNat 8 (g.lostL.toNat + 2 * g.lostR.toNat + 4 * g.skew.toNat) | _ => 0#8],
       [match h.angle with | .faulted _ _ n => BitVec.ofNat 8 n | _ => 0#8], yes h.seedPending,
       raw h.left, raw h.right, delta h.left, delta h.right, yes h.left.clamped, yes h.right.clamped,
       count h.left.missRun, count h.right.missRun, optional 2 byte2 h.skew, count h.skewRun,
       byte2 h.interval, byte2 h.shift, byte2 h.skewLimit, count h.samples,
       count h.left.missTotal, count h.right.missTotal, count h.overLimit, count h.faultEntries]) ∧
    (∀ counted, (s.hinge.capture = none ∧ counted = 0 ∨ s.hinge.capture = some .started ∧ counted = 0 ∨
        ∃ l r, s.hinge.capture = some (.counting counted l r)) →
      answers .zeroRead [byte2 s.hinge.left.zero.toNat, byte2 s.hinge.right.zero.toNat,
        yes s.port.straps.pola, yes s.port.straps.polb, yes s.hinge.capture.isSome, [BitVec.ofNat 8 counted],
        [match s.hinge.lastResult with | .none => 0#8 | .ok => 1#8 | .failed => 2#8]]) ∧
    (let bounds := fun (z : Zones) => byte2 z.b1 ++ byte2 z.b2 ++ byte2 z.b3 ++ byte2 z.b4 ++ byte2 z.b5
     answers .zonesRead [bounds s.posture.zones, match s.posture.pendingZones with
       | some z => 1#8 :: bounds z
       | none => List.replicate 11 0#8]) ∧
    (let u := s.posture
     answers .postureRead [
       [match u.posture with | some p => BitVec.ofNat 8 p.number.val | none => 6#8],
       [match u.mode with | .track => 0#8 | .hold => 1#8 | .forced => 2#8],
       [match u.report with | .acquiring => 0#8 | .tracking _ => 1#8 | .faulted _ => 2#8],
       optional 2 byte2 u.report.angle?,
       optional 4 (fun p => byte2 (u.zones.lower p) ++ byte2 (u.zones.upper p)) u.posture,
       optional 1 (fun d : Dwelling => [BitVec.ofNat 8 d.candidate.number.val]) u.dwelling,
       [match u.dwelling with | some d => BitVec.ofNat 8 d.count | none => 0#8],
       byte2 u.hysteresis, byte2 u.dwell, byte2 u.margin, [match u.lead with | .a => 0#8 | .b => 1#8],
       onOff u.needA.delivered.demand, onOff u.needB.delivered.demand, yes u.needA.preDemand, yes u.needB.preDemand,
       yes u.needA.delivered.wanted, yes u.needB.delivered.wanted, yes u.pendingZones.isSome]) ∧
    (let f := s.frame
     answers .frameStatus [
       [match f.rate with | .hz60 => 60#8 | .hz90 => 90#8 | .hz120 => 120#8],
       [match f.captureState with | .empty => 0#8 | .filling _ _ => 1#8 | .complete => 2#8],
       optional 2 byte2 (match f.captureState with | .filling n _ => some n | _ => none),
       optional 1 yes (match f.captureState with | .filling _ bad => some bad | _ => none), yes f.scanCaptured,
       gen s.table.shown.gen, gen s.table.capture.gen, optional 4 gen (s.table.staged.map Published.gen),
       gen s.table.register, count s.table.superseded, count f.flips, count f.repeats, count f.dropped,
       count f.truncated, count f.malformed]) ∧
    answers .reflowRead [[BitVec.ofNat 8 s.comp.reflow.length], s.comp.reflow.map fun h => BitVec.ofNat 8 h.val,
      gen s.comp.stackA.context.gen] ∧
    (let panel := fun (x : Panel) =>
       let p := s.comp.stackOf x
       [[BitVec.ofNat 8 p.context.panelState.number], yes (s.panel x).layersEnabled, gen p.context.gen,
        [p.context.background.red, p.context.background.green, p.context.background.blue], yes p.context.turned,
        [BitVec.ofNat 8 p.stack.length], p.stack.flatMap (fun l =>
          BitVec.ofNat 8 l.handle.val :: BitVec.ofNat 8 l.priority.val ::
            ([l.part.rect.x, l.part.rect.y, l.part.rect.w, l.part.rect.h, l.part.start.x, l.part.start.y].flatMap byte2 ++
              [BitVec.ofNat 8 l.step])),
        [BitVec.ofNat 8 p.starved.length], p.starved.map (fun h => BitVec.ofNat 8 h.val), count p.starvedTotal]
     answers .layersRead (panel .a ++ panel .b))

/-- The reads that name a handle, view, posture, panel or index: RANGE, ABSENT, or DONE with the fields of the record asked
for, in the order of R37, R65, R66, R110, R150 and R158, each at the width of R179; nothing else is changed (R39, R65, R66, R111, R150,
R158). The model's reading: times rounded up to milliseconds, the recovery window's at least 1, the linger time in two
bytes, asserted 0 and released 1, the fields of panel A before B, which fields share one present byte, and no count byte in
SCRIPT READ (assumptions 10 to 14 and 23). -/
def Obligations.IndexedReadsAnswerTheirRecord : Prop :=
  ∀ s : State, s.portOpen = true →
    let answers := fun (c : Instr) (fields : List (List Byte)) => exec c s = .next (s.hold ⟨.done, fields.flatten⟩)
    let yes := fun (b : Bool) => [if b then 1#8 else 0#8]
    let down := fun (b : Bool) => [if b then 0#8 else 1#8]
    let gen := fun (g : Gen) => byte4 g.toNat
    let numbers := fun (l : List Nat) => l.flatMap byte2
    (∀ b : Byte,
      (5 < b.toNat → exec (.profileRead b) s = .next (s.hold ⟨.range, []⟩)) ∧
      (∀ p : Posture, b.toNat = p.number.val →
        (let q := s.posture.profiles[p.number]
         let field := fun (d : Demand) => [match d with | .on => 0#8 | .off => 1#8 | .lead => 2#8 | .trail => 3#8]
         answers (.profileRead b) [field q.demandA, field q.demandB, yes q.turnedA, yes q.turnedB, yes q.spanAllowed,
           [q.background.red, q.background.green, q.background.blue]]) ∧
        ∀ f : RawProfile, profileOf f = some s.posture.profiles[p.number] →
          exec (.profileRead b) s = .next (s.hold ⟨.done, rawProfileBytes f⟩)) ∧
      (31 < b.toNat → exec (.entryStatus b) s = .next (s.hold ⟨.range, []⟩) ∧
        exec (.placementRead b) s = .next (s.hold ⟨.range, []⟩)) ∧
      (∀ h : Handle, b.toNat = h.val →
        answers (.entryStatus b) [[b],
          [match s.table.status h with | .free => 0#8 | .pending => 1#8 | .active => 2#8 | .retiring => 3#8],
          yes s.table.draft[h].isSome,
          optional 4 gen ((s.table.staged.filter fun p => p.view[h].isSome).map Published.gen),
          optional 4 gen (if s.table.capture.view[h].isSome then some s.table.capture.gen else none),
          optional 4 gen (if s.table.shown.view[h].isSome then some s.table.shown.gen else none)] ∧
        (let r := s.comp.records[h]
         let part := fun (p : Part) => numbers [p.rect.x, p.rect.y, p.rect.w, p.rect.h, p.start.x, p.start.y]
         let layer := fun (l : LayerField) => [match l with
           | .slot n => BitVec.ofNat 8 n.val | .starved => 6#8 | .notHere => 7#8]
         (r.inShown = false → exec (.placementRead b) s = .next (s.hold ⟨.absent, []⟩)) ∧
         (r.inShown = true → answers (.placementRead b) [yes r.inShown, gen r.gen,
           [match r.kind with | .none => 0#8 | .home => 1#8 | .guest => 2#8 | .span => 3#8],
           optional 1 (fun q => [match q with
             | .unsettled => 0#8 | .notVisible => 1#8 | .noLivePanel => 2#8 | .hiddenByFit => 3#8]) r.reason,
           optional 1 (fun q => [match q with | .panelA => 0#8 | .panelB => 1#8 | .span => 2#8]) r.target,
           optional 5 (fun o : OriginTaken => (match o.kind with
             | .home => 0#8 | .guest => 1#8 | .centred => 2#8 | .span => 3#8) :: numbers [o.at_.x, o.at_.y]) r.origin,
           optional 1 (fun q => [match q with | .none => 0#8 | .crop => 1#8 | .halve => 2#8 | .hide => 3#8]) r.fit,
           optional 8 (fun sh : Shown =>
             numbers [sh.part.rect.x, sh.part.rect.y, sh.part.rect.w, sh.part.rect.h]) r.shown,
           optional 5 (fun sh : Shown =>
             numbers [sh.part.start.x, sh.part.start.y] ++ [BitVec.ofNat 8 sh.step]) r.shown,
           yes r.provisional, optional 12 part r.partA, optional 12 part r.partB, layer r.layerA, layer r.layerB])))) ∧
    (∀ bh bv : Byte,
      ((31 < bh.toNat ∨ 3 < bv.toNat) → exec (.entryRead bh bv) s = .next (s.hold ⟨.range, []⟩)) ∧
      (∀ (h : Handle), bh.toNat = h.val →
        let record : Option (Option Gen × Entry) := match bv.toNat with
          | 0 => s.table.draft[h].map fun e => (none, e)
          | 1 => s.table.staged.bind fun p => p.view[h].map fun e => (some p.gen, e)
          | 2 => s.table.capture.view[h].map fun e => (some s.table.capture.gen, e)
          | _ => s.table.shown.view[h].map fun e => (some s.table.shown.gen, e)
        bv.toNat ≤ 3 →
        (record = none → exec (.entryRead bh bv) s = .next (s.hold ⟨.absent, []⟩)) ∧
        (∀ g e, record = some (g, e) →
          answers (.entryRead bh bv) [[bh], [bv], optional 4 gen g, byte2 e.tag.toNat,
            numbers [e.source.x, e.source.y, e.source.w, e.source.h], [match e.home with | .a => 0#8 | .b => 1#8],
            numbers [e.homeAt.x, e.homeAt.y], optional 4 (fun p : Point => numbers [p.x, p.y]) e.guestAt,
            optional 4 (fun p : Point => numbers [p.x, p.y]) e.spanAt, [BitVec.ofNat 8 e.priority.val],
            [match e.fit with | .crop => 0#8 | .halve => 1#8 | .hide => 2#8], [e.visibility.setWidth 8]] ∧
          ∀ f : RawEntry, entryOf f = some e → e.guestAt.isSome = true → e.spanAt.isSome = true →
            exec (.entryRead bh bv) s = .next (s.hold ⟨.done, bh :: bv :: optional 4 gen g ++ rawEntryBytes f⟩)))) ∧
    (∀ b : Byte,
      (1 < b.toNat → exec (.panelRead b) s = .next (s.hold ⟨.range, []⟩)) ∧
      (∀ x, panelOfByte b = some x →
        let u := s.panel x
        let left := fun (due : Nat) => (due - s.now + 999) / 1000
        let slot := fun (l : ScriptSlot) => match l with | .wake => 0#8 | .sleep => 1#8 | .check => 2#8
        let kind := fun (k : StepKind) => match k with
          | .send => 0#8 | .read => 1#8 | .poll => 2#8 | .wait => 3#8 | .line => 4#8 | .goto => 5#8 | .finish => 6#8
        let error := fun (e : StepError) => match e with
          | .noReply => 0#8 | .reported _ => 1#8 | .protocol => 2#8 | .mismatch => 3#8 | .pollTimeout => 4#8
          | .runaway => 5#8
        let reported := fun (e : Option StepError) => optional 1 (fun m : BitVec 4 => [m.setWidth 8])
          (match e with | some (.reported m) => some m | _ => none)
        let state := fun (st : PanelState) => match st with
          | .dark => 0#8 | .waking => 1#8 | .live => 2#8 | .idle => 3#8 | .sleeping => 4#8 | .fault => 5#8
        -- the state left is listed in another order, without FAULT (R145)
        let stateLeft := fun (st : PanelState) => match st with
          | .waking => 0#8 | .live => 1#8 | .idle => 2#8 | .sleeping => 3#8 | .dark => 4#8 | .fault => 5#8
        answers (.panelRead b) [[state u.state], down u.demandIn, yes u.wantedIn,
          optional 2 (fun r : Run => [slot r.slot, BitVec.ofNat 8 r.index.val]) u.run,
          (match u.linger with
            | .absent => 0#8 :: byte2 0 | .running t => 1#8 :: byte2 (left t) | .held => 2#8 :: byte2 0),
          byte2 s.lingerTime, yes u.latched, [BitVec.ofNat 8 u.recoveryCount],
          optional 2 (fun t => byte2 (max 1 (left t))) u.recoveryWindow,
          optional 12 (fun f : FaultRecord =>
            [match f.kind with | .script => 0#8 | .recoveryLimit => 1#8 | .stopped => 2#8, stateLeft f.left] ++
            optional 1 (fun q => [slot q.1]) f.step ++ optional 1 (fun q => [BitVec.ofNat 8 q.2.1.val]) f.step ++
            optional 1 (fun q => [kind q.2.2]) f.step ++ optional 1 (fun e => [error e]) f.error ++ reported f.error)
            u.faultRecord,
          optional 6 (fun f : StepFailure =>
            [slot f.slot, BitVec.ofNat 8 f.index.val, kind f.kind, error f.error] ++ reported (some f.error)) u.tolerated,
          down u.resetAsserted, down u.powerAsserted, byte2 u.attentions.toNat, byte2 u.recoveries.toNat,
          byte2 u.faultEntries.toNat])) ∧
    (∀ start count : Byte,
      ((count.toNat = 0 ∨ 4 < count.toNat ∨ 256 < start.toNat + count.toNat) →
        exec (.scriptRead start count) s = .next (s.hold ⟨.range, []⟩)) ∧
      (1 ≤ count.toNat → count.toNat ≤ 4 → start.toNat + count.toNat ≤ 256 → ∃ steps : List Byte,
        (let slot := fun (i : Option StepIndex) => optional 1 (fun j : StepIndex => [BitVec.ofNat 8 j.val]) i
         answers (.scriptRead start count) [steps,
           slot s.scripts.slotsA.wake, slot s.scripts.slotsA.sleep, slot s.scripts.slotsA.check,
           slot s.scripts.slotsB.wake, slot s.scripts.slotsB.sleep, slot s.scripts.slotsB.check]) ∧
        steps.length = 15 * count.toNat ∧
        ∀ (k : Nat) (i : StepIndex), k < count.toNat → i.val = start.toNat + k →
          (steps.drop (15 * k)).take 15 = BitVec.ofNat 8 i.val :: (s.scripts.steps[i]).bytes))

/-! ## The whole machine -/

/-- Who changes what: DRAFT, the published views, the records, the scan bank, Script Memory and its slots, the zeros, the
straps and the posture change only at the commands and events that the spec names for each (R24, R33, R52, R53, R74,
R102, R114, R154, R155, R190). -/
def Obligations.EachPartChangesAtItsOwnEventsAlone : Prop :=
  ∀ (c : Instr) (s t : State), exec c s = .next t →
    let reset : Prop := c = .softReset ∨ ∃ n, c = .pinReset n
    let sampled : Prop := c = .sampleIntervalExpiry ∨ (∃ p raw ok, c = .sensorReply p raw ok) ∨ ∃ p, c = .sensorReadTimeout p
    (t.table.draft ≠ s.table.draft → reset ∨ (∃ f, c = .entryBind f) ∨ (∃ h k f, c = .entrySet h k f) ∨
      (∃ h, c = .entryRetire h) ∨ (∃ g, c = .tagRetire g) ∨ c = .draftRevert) ∧
    (t.table.staged ≠ s.table.staged → reset ∨ c = .tablePublish ∨ c = .sourceFrameStart) ∧
    (t.table.register ≠ s.table.register → reset ∨ c = .tablePublish) ∧
    (t.table.capture ≠ s.table.capture → reset ∨ c = .sourceFrameStart) ∧
    (t.table.shown ≠ s.table.shown → reset ∨ (c = .outputFrameStart ∧ t.table.shown = s.table.capture)) ∧
    (t.comp ≠ s.comp → reset ∨ c = .outputFrameStart) ∧
    (t.frame.scan ≠ s.frame.scan → reset ∨ (c = .outputFrameStart ∧ s.frame.captureState = .complete)) ∧
    (t.scripts.steps ≠ s.scripts.steps → (∃ a l, c = .scriptWrite a l) ∨ ∃ n, c = .pinReset n) ∧
    ((∃ x, t.scripts.slots x ≠ s.scripts.slots x) → (∃ a b d e, c = .slotSet a b d e) ∨ ∃ n, c = .pinReset n) ∧
    ((t.hinge.left.zero ≠ s.hinge.left.zero ∨ t.hinge.right.zero ≠ s.hinge.right.zero) →
      (∃ l r, c = .zeroWrite l r) ∨ sampled ∨ ∃ n, c = .pinReset n) ∧
    (t.port.straps ≠ s.port.straps → ∃ st, c = .resetnRelease st) ∧
    (t.posture.posture ≠ s.posture.posture → reset ∨ (∃ p, c = .trackModeForce p) ∨ sampled)

/-- What only a reset or its own command undoes: a flag once set is cleared only by NOTIFY CLEAR and the resets; a sound
panel in FAULT leaves it, with its fault record, only by PANEL RESTART and the resets, its lines held; the angle state returns to
ACQUIRING, and a counter to a smaller value, only by the resets (R10, R77, R117, R144, R146, R150, R183). -/
def Obligations.FlagsFaultsAndCountersLast : Prop :=
  ∀ (c : Instr) (s t : State), exec c s = .next t → c ≠ .softReset → (∀ n, c ≠ .pinReset n) →
    (∀ i, s.port.flags.getLsbD i = true → t.port.flags.getLsbD i = false → ∃ m, c = .notifyClear m) ∧
    (∀ x, s.PanelsSound → (s.panel x).state = .fault → (∀ b, c ≠ .panelRestart b) →
      (t.panel x).state = .fault ∧ (t.panel x).faultRecord = (s.panel x).faultRecord ∧
      (t.panel x).resetAsserted = (s.panel x).resetAsserted ∧ (t.panel x).powerAsserted = (s.panel x).powerAsserted) ∧
    (s.hinge.angle ≠ .acquiring → t.hinge.angle ≠ .acquiring) ∧
    (∀ p, (s.hinge.pivot p).missTotal.toNat ≤ (t.hinge.pivot p).missTotal.toNat) ∧
    s.hinge.overLimit.toNat ≤ t.hinge.overLimit.toNat ∧
    s.hinge.samples.toNat ≤ t.hinge.samples.toNat ∧ s.hinge.faultEntries.toNat ≤ t.hinge.faultEntries.toNat ∧
    s.table.superseded.toNat ≤ t.table.superseded.toNat ∧ s.frame.flips.toNat ≤ t.frame.flips.toNat ∧
    s.frame.repeats.toNat ≤ t.frame.repeats.toNat ∧ s.frame.dropped.toNat ≤ t.frame.dropped.toNat ∧
    s.frame.truncated.toNat ≤ t.frame.truncated.toNat ∧ s.frame.malformed.toNat ≤ t.frame.malformed.toNat ∧
    (∀ x, (s.comp.stackOf x).starvedTotal.toNat ≤ (t.comp.stackOf x).starvedTotal.toNat ∧
      (s.panel x).attentions.toNat ≤ (t.panel x).attentions.toNat ∧
      (s.panel x).recoveries.toNat ≤ (t.panel x).recoveries.toNat ∧
      (s.panel x).faultEntries.toNat ≤ (t.panel x).faultEntries.toNat)

/-! ## Invariants that every step keeps -/

/-- Settings, zones, the dwell and the angle state stay in their ranges (R7, R11, R13, R17, R21, R25, R33, R34, R139). -/
def Obligations.StepKeepsSettingsAndAnglesInRange : Prop :=
  ∀ s t : State, (s.SettingsInRange ∧ s.ZonesInOrder ∧ s.DwellSound ∧ s.HingeSound) → step s = .next t →
    t.SettingsInRange ∧ t.ZonesInOrder ∧ t.DwellSound ∧ t.HingeSound

/-- Every entry of every view passes its checks, the register numbers the latest publish, and both banks keep their form
inside the canvas (R49, R51, R71, R79, R80). -/
def Obligations.StepKeepsTableAndBanks : Prop :=
  ∀ s t : State, (s.EntriesValid ∧ s.LatestPublished ∧ s.BanksSound) → step s = .next t →
    t.EntriesValid ∧ t.LatestPublished ∧ t.BanksSound

/-- Records, Reflow List and layer stacks agree with each other and with SHOWN (R102, R110, R111, R114, R116, R117). -/
def Obligations.StepKeepsRecordsAndStacks : Prop :=
  ∀ s t : State, (s.RecordsSound ∧ s.StackSound .a ∧ s.StackSound .b) → step s = .next t →
    t.RecordsSound ∧ t.StackSound .a ∧ t.StackSound .b

/-- The demand and pre-demand held are those in force and each Panel Controller's inputs are the pair delivered; each
panel's run, timer, record, inputs, latch, recovery count and stream fit its state; no posture while RESETN is low (R41 to
R47, R123 to R125, R131, R133 to R138, R141 to R146, R160, R168, R189). -/
def Obligations.StepKeepsDemandAndPanelsSound : Prop :=
  ∀ s t : State, (s.DemandInForce .a ∧ s.DemandInForce .b ∧ s.ResetHeld ∧ s.PanelsSound) → step s = .next t →
    t.DemandInForce .a ∧ t.DemandInForce .b ∧ t.ResetHeld ∧ t.PanelsSound

/-- The reset state has every invariant. -/
def Obligations.ResetIsSound : Prop :=
  State.reset.SettingsInRange ∧ State.reset.ZonesInOrder ∧ State.reset.DwellSound ∧ State.reset.HingeSound ∧
  State.reset.DemandInForce .a ∧ State.reset.DemandInForce .b ∧ State.reset.ResetHeld ∧ State.reset.EntriesValid ∧
  State.reset.LatestPublished ∧
  State.reset.BanksSound ∧ State.reset.RecordsSound ∧ State.reset.StackSound .a ∧ State.reset.StackSound .b ∧
  State.reset.PanelsSound
end

