-- ==== Sys2Proof/Laws/Banks.lean ====
section
/-! SUPPORT. The frame banks: what each operation reads and writes, and that every one keeps the canonical form. -/

namespace Sys2Proof.Machine

/-! ## The canonical form -/

/-- The form of a bank, one row at a time. -/
theorem Bank.wf_cons (k : Nat) (px : List Colour) (b : Bank) :
    Bank.wf ((k, px) :: b) = true ↔
      (px ≠ [] ∧ trimBlack px = px) ∧ (∀ e ∈ b.head?, k < e.1) ∧ Bank.wf b = true := by
  cases b with
  | nil => simp [Bank.wf]
  | cons e rest => simp [Bank.wf]; tauto

@[simp] theorem Bank.wf_nil : Bank.wf [] = true := rfl

/-- The first row of a bank has the lowest number. -/
theorem Bank.wf_head_lt {k : Nat} {px : List Colour} {b : Bank} (h : Bank.wf ((k, px) :: b) = true) :
    ∀ e ∈ b, k < e.1 := by
  induction b generalizing k px with
  | nil => simp
  | cons f rest ih =>
    obtain ⟨kf, pf⟩ := f
    have h1 := (Bank.wf_cons k px _).1 h
    have h2 : k < kf := h1.2.1 (kf, pf) rfl
    intro e he
    rcases List.mem_cons.1 he with rfl | he
    · exact h2
    · exact h2.trans (ih h1.2.2 e he)

/-- A row that no entry of the bank lists is black throughout. -/
theorem Bank.row_of_not_listed {b : Bank} {r : Nat} (h : ∀ e ∈ b, e.1 ≠ r) : Bank.row b r = [] := by
  induction b with
  | nil => rfl
  | cons e rest ih =>
    obtain ⟨k, px⟩ := e
    have hk : k ≠ r := h (k, px) (by simp)
    simp only [Bank.row, if_neg hk]
    exact ih fun e he => h e (by simp [he])

/-! ## Trimming -/

/-- A trimmed row reads as before. -/
theorem trimBlack_getD (l : List Colour) (i : Nat) :
    (trimBlack l).getD i Colour.black = l.getD i Colour.black := by
  induction l generalizing i with
  | nil => rfl
  | cons c cs ih =>
    rcases h : trimBlack cs with _ | ⟨d, ds⟩
    · have hb : ∀ j, cs.getD j Colour.black = Colour.black := fun j => by rw [← ih j, h]; simp
      simp only [trimBlack, h]
      split
      · cases i with
        | zero => simp [*]
        | succ i => simpa using (hb i).symm
      · cases i with
        | zero => rfl
        | succ i => simpa using (hb i).symm
    · simp only [trimBlack, h]
      cases i with
      | zero => rfl
      | succ i =>
        have := ih i
        rw [h] at this
        simpa using this

/-- Trimming twice is trimming once. -/
theorem trimBlack_trimBlack (l : List Colour) : trimBlack (trimBlack l) = trimBlack l := by
  induction l with
  | nil => rfl
  | cons c cs ih =>
    rcases h : trimBlack cs with _ | ⟨d, ds⟩
    · simp only [trimBlack, h]
      split <;> simp [trimBlack, *]
    · rw [h] at ih
      have hc : trimBlack (c :: cs) = c :: d :: ds := by simp only [trimBlack, h]
      rw [hc, trimBlack.eq_2 c (d :: ds), ih]

theorem trimBlack_length_le (l : List Colour) : (trimBlack l).length ≤ l.length := by
  induction l with
  | nil => simp [trimBlack]
  | cons c cs ih =>
    rcases h : trimBlack cs with _ | ⟨d, ds⟩
    · simp only [trimBlack, h]
      split <;> simp
    · rw [h] at ih
      simp only [trimBlack, h, List.length_cons] at *
      omega

/-! ## Writing a row -/

/-- A row read after a row is written: the row written, and every other row as before. -/
theorem Bank.row_setRow {b : Bank} (h : Bank.wf b = true) (r k : Nat) (px : List Colour) :
    Bank.row (Bank.setRow r px b) k = if k = r then px else Bank.row b k := by
  induction b with
  | nil =>
    by_cases hk : k = r
    · by_cases hp : px = [] <;> simp [Bank.setRow, Bank.row, hp, hk]
    · by_cases hp : px = [] <;> simp [Bank.setRow, Bank.row, hp, hk, Ne.symm hk]
  | cons e rest ih =>
    obtain ⟨j, q⟩ := e
    have hw := (Bank.wf_cons j q rest).1 h
    have hlt := Bank.wf_head_lt h
    have hn : ∀ m, m ≤ j → Bank.row rest m = [] := fun m hm =>
      Bank.row_of_not_listed fun e he => by have := hlt e he; omega
    simp only [Bank.setRow]
    split
    · by_cases hk : k = r
      · subst hk
        have : ¬ j = k := by omega
        simp [Bank.row, this, ih hw.2.2]
      · simp [Bank.row, ih hw.2.2, hk]
    · split
      · next hj =>
        subst hj
        by_cases hp : px = [] <;> by_cases hk : k = j <;> simp [Bank.row, hp, hk, hn, eq_comm]
      · by_cases hp : px = []
        · by_cases hk : k = r
          · subst hk
            have : ¬ j = k := by omega
            simp [Bank.row, hp, this, hn k (by omega)]
          · simp [Bank.row, hp, hk]
        · by_cases hk : k = r
          · simp [Bank.row, hp, hk]
          · simp [Bank.row, hp, hk, Ne.symm hk]

/-- The rows that a bank lists after a row is written are that row and rows listed before. -/
theorem Bank.mem_setRow {b : Bank} {r : Nat} {px : List Colour} {e : Nat × List Colour}
    (he : e ∈ Bank.setRow r px b) : (e = (r, px) ∧ px ≠ []) ∨ e ∈ b := by
  induction b with
  | nil =>
    by_cases hp : px = [] <;> simp [Bank.setRow, hp] at he
    exact .inl ⟨he, hp⟩
  | cons f rest ih =>
    obtain ⟨j, q⟩ := f
    simp only [Bank.setRow] at he
    split at he
    · rcases List.mem_cons.1 he with rfl | he
      · simp
      · rcases ih he with h | h
        · exact .inl h
        · exact .inr (by simp [h])
    · split at he <;> by_cases hp : px = [] <;> simp [hp] at he ⊢
      · exact .inr he
      · tauto
      · tauto
      · tauto

/-- Writing a trimmed row keeps the canonical form. -/
theorem Bank.wf_setRow {b : Bank} (h : Bank.wf b = true) (r : Nat) {px : List Colour} (hp : trimBlack px = px) :
    Bank.wf (Bank.setRow r px b) = true := by
  induction b with
  | nil =>
    by_cases h0 : px = []
    · simp [Bank.setRow, h0]
    · simp [Bank.setRow, h0, Bank.wf_cons, hp]
  | cons e rest ih =>
    obtain ⟨j, q⟩ := e
    have hw := (Bank.wf_cons j q rest).1 h
    have hlt := Bank.wf_head_lt h
    simp only [Bank.setRow]
    split
    · next hj =>
      refine (Bank.wf_cons j q _).2 ⟨hw.1, fun e he => ?_, ih hw.2.2⟩
      rcases Bank.mem_setRow (List.mem_of_mem_head? he) with ⟨rfl, -⟩ | he
      · exact hj
      · exact hlt e he
    · split
      · next hj =>
        subst hj
        by_cases h0 : px = []
        · simpa [h0] using hw.2.2
        · simp only [if_neg h0]
          exact (Bank.wf_cons j px rest).2 ⟨⟨h0, hp⟩, hw.2⟩
      · by_cases h0 : px = []
        · simpa [h0] using h
        · simp only [if_neg h0]
          refine (Bank.wf_cons r px _).2 ⟨⟨h0, hp⟩, fun e he => ?_, h⟩
          simp at he
          subst he
          simp; omega

/-! ## Storing a line (R71) -/

/-- The row that a line leaves, pixel by pixel. -/
theorem lineOver_getD (count : Nat) (pixels old : List Colour) (c : Nat) :
    (lineOver count pixels old).getD c Colour.black =
      if c < min count 2400 then pixels.getD c Colour.black else old.getD c Colour.black := by
  rw [lineOver, trimBlack_getD, List.getD_eq_getElem?_getD]
  by_cases hc : c < max (min count 2400) old.length
  · simp only [List.getElem?_map, List.getElem?_range hc]
    rfl
  · have h1 : ¬ c < min count 2400 := by omega
    have h2 : old.length ≤ c := by omega
    rw [List.getElem?_eq_none (by simp only [List.length_map, List.length_range]; omega), if_neg h1,
      List.getD_eq_default old _ h2]
    rfl

theorem lineOver_length_le (count : Nat) (pixels old : List Colour) (h : old.length ≤ 2400) :
    (lineOver count pixels old).length ≤ 2400 := by
  refine (trimBlack_length_le _).trans ?_
  simp
  omega

/-- A pixel read after a line is stored: the line's pixel in its row up to its length and the row's end, and every other
pixel as before. -/
theorem Bank.pixel_storeLine {b : Bank} (h : Bank.wf b = true) (r count : Nat) (pixels : List Colour) (col row : Nat) :
    Bank.pixel (Bank.storeLine r count pixels b) col row =
      if row = r ∧ col < min count 2400 then pixels.getD col Colour.black else Bank.pixel b col row := by
  unfold Bank.pixel Bank.storeLine
  rw [Bank.row_setRow h]
  by_cases hr : row = r
  · subst hr
    simp only [if_true, true_and]
    exact lineOver_getD _ _ _ _
  · simp [hr]

/-- Storing a line keeps the canonical form. -/
theorem Bank.wf_storeLine {b : Bank} (h : Bank.wf b = true) (r count : Nat) (pixels : List Colour) :
    Bank.wf (Bank.storeLine r count pixels b) = true :=
  Bank.wf_setRow h r (trimBlack_trimBlack _)

/-- Both banks have the canonical form after a reset. -/
theorem FrameStore.reset_banks_wf (start : Nat) :
    Bank.wf (FrameStore.reset start).scan = true ∧ Bank.wf (FrameStore.reset start).capture = true := ⟨rfl, rfl⟩

end Sys2Proof.Machine
end

