-- ==== Sys2Proof/Laws/State.lean ====
section
/-! SUPPORT. One lemma per field per update of the state, each true by computation, so that no proof unfolds an update. -/

namespace Sys2Proof.Machine

/-! ## `State.raise` -/

@[simp] theorem State.raise_pending (g : Flag) (s : State) : (s.raise g).pending = s.pending := rfl
@[simp] theorem State.raise_now (g : Flag) (s : State) : (s.raise g).now = s.now := rfl
@[simp] theorem State.raise_inReset (g : Flag) (s : State) : (s.raise g).inReset = s.inReset := rfl
@[simp] theorem State.raise_shortPulses (g : Flag) (s : State) : (s.raise g).shortPulses = s.shortPulses := rfl
@[simp] theorem State.raise_hinge (g : Flag) (s : State) : (s.raise g).hinge = s.hinge := rfl
@[simp] theorem State.raise_posture (g : Flag) (s : State) : (s.raise g).posture = s.posture := rfl
@[simp] theorem State.raise_table (g : Flag) (s : State) : (s.raise g).table = s.table := rfl
@[simp] theorem State.raise_frame (g : Flag) (s : State) : (s.raise g).frame = s.frame := rfl
@[simp] theorem State.raise_comp (g : Flag) (s : State) : (s.raise g).comp = s.comp := rfl
@[simp] theorem State.raise_panelA (g : Flag) (s : State) : (s.raise g).panelA = s.panelA := rfl
@[simp] theorem State.raise_panelB (g : Flag) (s : State) : (s.raise g).panelB = s.panelB := rfl
@[simp] theorem State.raise_lingerTime (g : Flag) (s : State) : (s.raise g).lingerTime = s.lingerTime := rfl
@[simp] theorem State.raise_scripts (g : Flag) (s : State) : (s.raise g).scripts = s.scripts := rfl
@[simp] theorem State.raise_port_reply (g : Flag) (s : State) : (s.raise g).port.reply = s.port.reply := rfl
@[simp] theorem State.raise_port_replyRead (g : Flag) (s : State) : (s.raise g).port.replyRead = s.port.replyRead := rfl
@[simp] theorem State.raise_port_linkErrors (g : Flag) (s : State) : (s.raise g).port.linkErrors = s.port.linkErrors :=
  rfl
@[simp] theorem State.raise_port_enables (g : Flag) (s : State) : (s.raise g).port.enables = s.port.enables := rfl
@[simp] theorem State.raise_port_startUpCloses (g : Flag) (s : State) : (s.raise g).port.startUpCloses = s.port.startUpCloses :=
  rfl
@[simp] theorem State.raise_port_straps (g : Flag) (s : State) : (s.raise g).port.straps = s.port.straps := rfl
@[simp] theorem State.raise_port_sdo (g : Flag) (s : State) : (s.raise g).port.sdo = s.port.sdo := rfl
@[simp] theorem State.raise_port_flags (g : Flag) (s : State) : (s.raise g).port.flags = s.port.flags ||| g.mask := rfl

/-! ## `State.raiseIf` -/

@[simp] theorem State.raiseIf_true (g : Flag) (s : State) : s.raiseIf true g = s.raise g := rfl
@[simp] theorem State.raiseIf_false (g : Flag) (s : State) : s.raiseIf false g = s := rfl
@[simp] theorem State.raiseIf_pending (b : Bool) (g : Flag) (s : State) : (s.raiseIf b g).pending = s.pending :=
  by cases b <;> rfl
@[simp] theorem State.raiseIf_now (b : Bool) (g : Flag) (s : State) : (s.raiseIf b g).now = s.now := by cases b <;> rfl
@[simp] theorem State.raiseIf_inReset (b : Bool) (g : Flag) (s : State) : (s.raiseIf b g).inReset = s.inReset :=
  by cases b <;> rfl
@[simp] theorem State.raiseIf_shortPulses (b : Bool) (g : Flag) (s : State) : (s.raiseIf b g).shortPulses = s.shortPulses :=
  by cases b <;> rfl
@[simp] theorem State.raiseIf_hinge (b : Bool) (g : Flag) (s : State) : (s.raiseIf b g).hinge = s.hinge :=
  by cases b <;> rfl
@[simp] theorem State.raiseIf_posture (b : Bool) (g : Flag) (s : State) : (s.raiseIf b g).posture = s.posture :=
  by cases b <;> rfl
@[simp] theorem State.raiseIf_table (b : Bool) (g : Flag) (s : State) : (s.raiseIf b g).table = s.table :=
  by cases b <;> rfl
@[simp] theorem State.raiseIf_frame (b : Bool) (g : Flag) (s : State) : (s.raiseIf b g).frame = s.frame :=
  by cases b <;> rfl
@[simp] theorem State.raiseIf_comp (b : Bool) (g : Flag) (s : State) : (s.raiseIf b g).comp = s.comp :=
  by cases b <;> rfl
@[simp] theorem State.raiseIf_panelA (b : Bool) (g : Flag) (s : State) : (s.raiseIf b g).panelA = s.panelA :=
  by cases b <;> rfl
@[simp] theorem State.raiseIf_panelB (b : Bool) (g : Flag) (s : State) : (s.raiseIf b g).panelB = s.panelB :=
  by cases b <;> rfl
@[simp] theorem State.raiseIf_lingerTime (b : Bool) (g : Flag) (s : State) : (s.raiseIf b g).lingerTime = s.lingerTime :=
  by cases b <;> rfl
@[simp] theorem State.raiseIf_scripts (b : Bool) (g : Flag) (s : State) : (s.raiseIf b g).scripts = s.scripts :=
  by cases b <;> rfl
@[simp] theorem State.raiseIf_port_reply (b : Bool) (g : Flag) (s : State) : (s.raiseIf b g).port.reply = s.port.reply :=
  by cases b <;> rfl
@[simp] theorem State.raiseIf_port_replyRead (b : Bool) (g : Flag) (s : State) : (s.raiseIf b g).port.replyRead = s.port.replyRead :=
  by cases b <;> rfl
@[simp] theorem State.raiseIf_port_linkErrors (b : Bool) (g : Flag) (s : State) : (s.raiseIf b g).port.linkErrors = s.port.linkErrors :=
  by cases b <;> rfl
@[simp] theorem State.raiseIf_port_enables (b : Bool) (g : Flag) (s : State) : (s.raiseIf b g).port.enables = s.port.enables :=
  by cases b <;> rfl
@[simp] theorem State.raiseIf_port_startUpCloses (b : Bool) (g : Flag) (s : State) : (s.raiseIf b g).port.startUpCloses = s.port.startUpCloses :=
  by cases b <;> rfl
@[simp] theorem State.raiseIf_port_straps (b : Bool) (g : Flag) (s : State) : (s.raiseIf b g).port.straps = s.port.straps :=
  by cases b <;> rfl
@[simp] theorem State.raiseIf_port_sdo (b : Bool) (g : Flag) (s : State) : (s.raiseIf b g).port.sdo = s.port.sdo :=
  by cases b <;> rfl

/-! ## `State.hold` -/

@[simp] theorem State.hold_pending (r : Reply) (s : State) : (s.hold r).pending = s.pending := rfl
@[simp] theorem State.hold_now (r : Reply) (s : State) : (s.hold r).now = s.now := rfl
@[simp] theorem State.hold_inReset (r : Reply) (s : State) : (s.hold r).inReset = s.inReset := rfl
@[simp] theorem State.hold_shortPulses (r : Reply) (s : State) : (s.hold r).shortPulses = s.shortPulses := rfl
@[simp] theorem State.hold_hinge (r : Reply) (s : State) : (s.hold r).hinge = s.hinge := rfl
@[simp] theorem State.hold_posture (r : Reply) (s : State) : (s.hold r).posture = s.posture := rfl
@[simp] theorem State.hold_table (r : Reply) (s : State) : (s.hold r).table = s.table := rfl
@[simp] theorem State.hold_frame (r : Reply) (s : State) : (s.hold r).frame = s.frame := rfl
@[simp] theorem State.hold_comp (r : Reply) (s : State) : (s.hold r).comp = s.comp := rfl
@[simp] theorem State.hold_panelA (r : Reply) (s : State) : (s.hold r).panelA = s.panelA := rfl
@[simp] theorem State.hold_panelB (r : Reply) (s : State) : (s.hold r).panelB = s.panelB := rfl
@[simp] theorem State.hold_lingerTime (r : Reply) (s : State) : (s.hold r).lingerTime = s.lingerTime := rfl
@[simp] theorem State.hold_scripts (r : Reply) (s : State) : (s.hold r).scripts = s.scripts := rfl
@[simp] theorem State.hold_port_flags (r : Reply) (s : State) : (s.hold r).port.flags = s.port.flags := rfl
@[simp] theorem State.hold_port_enables (r : Reply) (s : State) : (s.hold r).port.enables = s.port.enables := rfl
@[simp] theorem State.hold_port_startUpCloses (r : Reply) (s : State) : (s.hold r).port.startUpCloses = s.port.startUpCloses :=
  rfl
@[simp] theorem State.hold_port_straps (r : Reply) (s : State) : (s.hold r).port.straps = s.port.straps := rfl
@[simp] theorem State.hold_port_sdo (r : Reply) (s : State) : (s.hold r).port.sdo = .low := rfl
@[simp] theorem State.hold_port_reply (r : Reply) (s : State) : (s.hold r).port.reply = some r := rfl
@[simp] theorem State.hold_port_replyRead (r : Reply) (s : State) : (s.hold r).port.replyRead = false := rfl

/-! ## `State.droveLow` -/

@[simp] theorem State.droveLow_pending (s : State) : s.droveLow.pending = s.pending := rfl
@[simp] theorem State.droveLow_now (s : State) : s.droveLow.now = s.now := rfl
@[simp] theorem State.droveLow_inReset (s : State) : s.droveLow.inReset = s.inReset := rfl
@[simp] theorem State.droveLow_shortPulses (s : State) : s.droveLow.shortPulses = s.shortPulses := rfl
@[simp] theorem State.droveLow_hinge (s : State) : s.droveLow.hinge = s.hinge := rfl
@[simp] theorem State.droveLow_posture (s : State) : s.droveLow.posture = s.posture := rfl
@[simp] theorem State.droveLow_table (s : State) : s.droveLow.table = s.table := rfl
@[simp] theorem State.droveLow_frame (s : State) : s.droveLow.frame = s.frame := rfl
@[simp] theorem State.droveLow_comp (s : State) : s.droveLow.comp = s.comp := rfl
@[simp] theorem State.droveLow_panelA (s : State) : s.droveLow.panelA = s.panelA := rfl
@[simp] theorem State.droveLow_panelB (s : State) : s.droveLow.panelB = s.panelB := rfl
@[simp] theorem State.droveLow_lingerTime (s : State) : s.droveLow.lingerTime = s.lingerTime := rfl
@[simp] theorem State.droveLow_scripts (s : State) : s.droveLow.scripts = s.scripts := rfl
@[simp] theorem State.droveLow_port_reply (s : State) : s.droveLow.port.reply = s.port.reply := rfl
@[simp] theorem State.droveLow_port_replyRead (s : State) : s.droveLow.port.replyRead = s.port.replyRead := rfl
@[simp] theorem State.droveLow_port_linkErrors (s : State) : s.droveLow.port.linkErrors = s.port.linkErrors := rfl
@[simp] theorem State.droveLow_port_flags (s : State) : s.droveLow.port.flags = s.port.flags := rfl
@[simp] theorem State.droveLow_port_enables (s : State) : s.droveLow.port.enables = s.port.enables := rfl
@[simp] theorem State.droveLow_port_startUpCloses (s : State) : s.droveLow.port.startUpCloses = s.port.startUpCloses := rfl
@[simp] theorem State.droveLow_port_straps (s : State) : s.droveLow.port.straps = s.port.straps := rfl
@[simp] theorem State.droveLow_port_sdo (s : State) : s.droveLow.port.sdo = .low := rfl

/-! ## `State.reach` -/

@[simp] theorem State.reach_pending (t : Nat) (s : State) : (s.reach t).pending = s.pending := rfl
@[simp] theorem State.reach_inReset (t : Nat) (s : State) : (s.reach t).inReset = s.inReset := rfl
@[simp] theorem State.reach_shortPulses (t : Nat) (s : State) : (s.reach t).shortPulses = s.shortPulses := rfl
@[simp] theorem State.reach_hinge (t : Nat) (s : State) : (s.reach t).hinge = s.hinge := rfl
@[simp] theorem State.reach_posture (t : Nat) (s : State) : (s.reach t).posture = s.posture := rfl
@[simp] theorem State.reach_table (t : Nat) (s : State) : (s.reach t).table = s.table := rfl
@[simp] theorem State.reach_frame (t : Nat) (s : State) : (s.reach t).frame = s.frame := rfl
@[simp] theorem State.reach_comp (t : Nat) (s : State) : (s.reach t).comp = s.comp := rfl
@[simp] theorem State.reach_panelA (t : Nat) (s : State) : (s.reach t).panelA = s.panelA := rfl
@[simp] theorem State.reach_panelB (t : Nat) (s : State) : (s.reach t).panelB = s.panelB := rfl
@[simp] theorem State.reach_lingerTime (t : Nat) (s : State) : (s.reach t).lingerTime = s.lingerTime := rfl
@[simp] theorem State.reach_scripts (t : Nat) (s : State) : (s.reach t).scripts = s.scripts := rfl
@[simp] theorem State.reach_port (t : Nat) (s : State) : (s.reach t).port = s.port := rfl
@[simp] theorem State.reach_now (t : Nat) (s : State) : (s.reach t).now = max s.now t := rfl

/-! ## `State.setPanel` -/

@[simp] theorem State.setPanel_pending (x : Panel) (u : PanelUnit) (s : State) : (s.setPanel x u).pending = s.pending :=
  by cases x <;> rfl
@[simp] theorem State.setPanel_now (x : Panel) (u : PanelUnit) (s : State) : (s.setPanel x u).now = s.now :=
  by cases x <;> rfl
@[simp] theorem State.setPanel_inReset (x : Panel) (u : PanelUnit) (s : State) : (s.setPanel x u).inReset = s.inReset :=
  by cases x <;> rfl
@[simp] theorem State.setPanel_shortPulses (x : Panel) (u : PanelUnit) (s : State) : (s.setPanel x u).shortPulses = s.shortPulses :=
  by cases x <;> rfl
@[simp] theorem State.setPanel_hinge (x : Panel) (u : PanelUnit) (s : State) : (s.setPanel x u).hinge = s.hinge :=
  by cases x <;> rfl
@[simp] theorem State.setPanel_posture (x : Panel) (u : PanelUnit) (s : State) : (s.setPanel x u).posture = s.posture :=
  by cases x <;> rfl
@[simp] theorem State.setPanel_table (x : Panel) (u : PanelUnit) (s : State) : (s.setPanel x u).table = s.table :=
  by cases x <;> rfl
@[simp] theorem State.setPanel_frame (x : Panel) (u : PanelUnit) (s : State) : (s.setPanel x u).frame = s.frame :=
  by cases x <;> rfl
@[simp] theorem State.setPanel_comp (x : Panel) (u : PanelUnit) (s : State) : (s.setPanel x u).comp = s.comp :=
  by cases x <;> rfl
@[simp] theorem State.setPanel_lingerTime (x : Panel) (u : PanelUnit) (s : State) : (s.setPanel x u).lingerTime = s.lingerTime :=
  by cases x <;> rfl
@[simp] theorem State.setPanel_scripts (x : Panel) (u : PanelUnit) (s : State) : (s.setPanel x u).scripts = s.scripts :=
  by cases x <;> rfl
@[simp] theorem State.setPanel_port (x : Panel) (u : PanelUnit) (s : State) : (s.setPanel x u).port = s.port :=
  by cases x <;> rfl
@[simp] theorem State.panel_setPanel (x : Panel) (u : PanelUnit) (s : State) : (s.setPanel x u).panel x = u := by
  cases x <;> rfl
theorem State.panel_setPanel_of_ne {x y : Panel} (h : y ≠ x) (u : PanelUnit) (s : State) :
    (s.setPanel x u).panel y = s.panel y := by
  cases x <;> cases y <;> first | rfl | exact absurd rfl h
@[simp] theorem State.setPanel_panel (x : Panel) (s : State) : s.setPanel x (s.panel x) = s := by cases x <;> rfl
@[simp] theorem State.setPanel_setPanel (x : Panel) (u v : PanelUnit) (s : State) :
    (s.setPanel x u).setPanel x v = s.setPanel x v := by
  cases x <;> rfl

/-! ## `State.panel` under the updates that leave the panels -/

@[simp] theorem State.raise_panel (g : Flag) (s : State) (x : Panel) : (s.raise g).panel x = s.panel x := by
  cases x <;> rfl
@[simp] theorem State.raiseIf_panel (b : Bool) (g : Flag) (s : State) (x : Panel) : (s.raiseIf b g).panel x = s.panel x :=
  by
  cases x <;> cases b <;> rfl
@[simp] theorem State.hold_panel (r : Reply) (s : State) (x : Panel) : (s.hold r).panel x = s.panel x := by
  cases x <;> rfl
@[simp] theorem State.reach_panel (t : Nat) (s : State) (x : Panel) : (s.reach t).panel x = s.panel x := by
  cases x <;> rfl

/-! ## `State.setDraft` -/

@[simp] theorem State.setDraft_pending (v : View) (s : State) : (s.setDraft v).pending = s.pending := rfl
@[simp] theorem State.setDraft_now (v : View) (s : State) : (s.setDraft v).now = s.now := rfl
@[simp] theorem State.setDraft_inReset (v : View) (s : State) : (s.setDraft v).inReset = s.inReset := rfl
@[simp] theorem State.setDraft_shortPulses (v : View) (s : State) : (s.setDraft v).shortPulses = s.shortPulses := rfl
@[simp] theorem State.setDraft_hinge (v : View) (s : State) : (s.setDraft v).hinge = s.hinge := rfl
@[simp] theorem State.setDraft_posture (v : View) (s : State) : (s.setDraft v).posture = s.posture := rfl
@[simp] theorem State.setDraft_frame (v : View) (s : State) : (s.setDraft v).frame = s.frame := rfl
@[simp] theorem State.setDraft_comp (v : View) (s : State) : (s.setDraft v).comp = s.comp := rfl
@[simp] theorem State.setDraft_panelA (v : View) (s : State) : (s.setDraft v).panelA = s.panelA := rfl
@[simp] theorem State.setDraft_panelB (v : View) (s : State) : (s.setDraft v).panelB = s.panelB := rfl
@[simp] theorem State.setDraft_lingerTime (v : View) (s : State) : (s.setDraft v).lingerTime = s.lingerTime := rfl
@[simp] theorem State.setDraft_scripts (v : View) (s : State) : (s.setDraft v).scripts = s.scripts := rfl
@[simp] theorem State.setDraft_port (v : View) (s : State) : (s.setDraft v).port = s.port := rfl
@[simp] theorem State.setDraft_table_draft (v : View) (s : State) : (s.setDraft v).table.draft = v := rfl
@[simp] theorem State.setDraft_table_staged (v : View) (s : State) : (s.setDraft v).table.staged = s.table.staged := rfl
@[simp] theorem State.setDraft_table_capture (v : View) (s : State) : (s.setDraft v).table.capture = s.table.capture :=
  rfl
@[simp] theorem State.setDraft_table_shown (v : View) (s : State) : (s.setDraft v).table.shown = s.table.shown := rfl
@[simp] theorem State.setDraft_table_register (v : View) (s : State) : (s.setDraft v).table.register = s.table.register :=
  rfl
@[simp] theorem State.setDraft_table_superseded (v : View) (s : State) : (s.setDraft v).table.superseded = s.table.superseded :=
  rfl

/-! ## A panel's unit under the controller's updates -/

@[simp] theorem PanelWork.enter_demandIn (env : PanelEnv) (new : PanelState) (w : PanelWork) : (w.enter env new).unit.demandIn = w.unit.demandIn :=
  rfl
@[simp] theorem PanelWork.enter_wantedIn (env : PanelEnv) (new : PanelState) (w : PanelWork) : (w.enter env new).unit.wantedIn = w.unit.wantedIn :=
  rfl
@[simp] theorem PanelWork.enter_run (env : PanelEnv) (new : PanelState) (w : PanelWork) : (w.enter env new).unit.run = w.unit.run :=
  rfl
@[simp] theorem PanelWork.enter_latched (env : PanelEnv) (new : PanelState) (w : PanelWork) : (w.enter env new).unit.latched = w.unit.latched :=
  rfl
@[simp] theorem PanelWork.enter_recoveryCount (env : PanelEnv) (new : PanelState) (w : PanelWork) : (w.enter env new).unit.recoveryCount = w.unit.recoveryCount :=
  rfl
@[simp] theorem PanelWork.enter_recoveryWindow (env : PanelEnv) (new : PanelState) (w : PanelWork) : (w.enter env new).unit.recoveryWindow = w.unit.recoveryWindow :=
  rfl
@[simp] theorem PanelWork.enter_faultRecord (env : PanelEnv) (new : PanelState) (w : PanelWork) : (w.enter env new).unit.faultRecord = w.unit.faultRecord :=
  rfl
@[simp] theorem PanelWork.enter_tolerated (env : PanelEnv) (new : PanelState) (w : PanelWork) : (w.enter env new).unit.tolerated = w.unit.tolerated :=
  rfl
@[simp] theorem PanelWork.enter_resetAsserted (env : PanelEnv) (new : PanelState) (w : PanelWork) : (w.enter env new).unit.resetAsserted = w.unit.resetAsserted :=
  rfl
@[simp] theorem PanelWork.enter_powerAsserted (env : PanelEnv) (new : PanelState) (w : PanelWork) : (w.enter env new).unit.powerAsserted = w.unit.powerAsserted :=
  rfl
@[simp] theorem PanelWork.enter_attentions (env : PanelEnv) (new : PanelState) (w : PanelWork) : (w.enter env new).unit.attentions = w.unit.attentions :=
  rfl
@[simp] theorem PanelWork.enter_recoveries (env : PanelEnv) (new : PanelState) (w : PanelWork) : (w.enter env new).unit.recoveries = w.unit.recoveries :=
  rfl
@[simp] theorem PanelWork.enter_faultEntries (env : PanelEnv) (new : PanelState) (w : PanelWork) : (w.enter env new).unit.faultEntries = w.unit.faultEntries :=
  rfl
@[simp] theorem PanelWork.enter_attentionLine (env : PanelEnv) (new : PanelState) (w : PanelWork) : (w.enter env new).unit.attentionLine = w.unit.attentionLine :=
  rfl
@[simp] theorem PanelWork.enter_packet (env : PanelEnv) (new : PanelState) (w : PanelWork) : (w.enter env new).unit.packet = w.unit.packet :=
  rfl
@[simp] theorem PanelWork.enter_packetCut (env : PanelEnv) (new : PanelState) (w : PanelWork) : (w.enter env new).unit.packetCut = w.unit.packetCut :=
  rfl
@[simp] theorem PanelWork.enter_state (env : PanelEnv) (new : PanelState) (w : PanelWork) : (w.enter env new).unit.state = new :=
  rfl
@[simp] theorem PanelWork.enter_request (env : PanelEnv) (new : PanelState) (w : PanelWork) : (w.enter env new).request = w.request :=
  rfl
@[simp] theorem PanelWork.enter_notify (env : PanelEnv) (new : PanelState) (w : PanelWork) : (w.enter env new).notify = (w.notify || new.announced) :=
  rfl
@[simp] theorem PanelWork.setRun_state (r : Run) (w : PanelWork) : (w.setRun r).unit.state = w.unit.state := rfl
@[simp] theorem PanelWork.setRun_demandIn (r : Run) (w : PanelWork) : (w.setRun r).unit.demandIn = w.unit.demandIn :=
  rfl
@[simp] theorem PanelWork.setRun_wantedIn (r : Run) (w : PanelWork) : (w.setRun r).unit.wantedIn = w.unit.wantedIn :=
  rfl
@[simp] theorem PanelWork.setRun_linger (r : Run) (w : PanelWork) : (w.setRun r).unit.linger = w.unit.linger := rfl
@[simp] theorem PanelWork.setRun_latched (r : Run) (w : PanelWork) : (w.setRun r).unit.latched = w.unit.latched := rfl
@[simp] theorem PanelWork.setRun_recoveryCount (r : Run) (w : PanelWork) : (w.setRun r).unit.recoveryCount = w.unit.recoveryCount :=
  rfl
@[simp] theorem PanelWork.setRun_recoveryWindow (r : Run) (w : PanelWork) : (w.setRun r).unit.recoveryWindow = w.unit.recoveryWindow :=
  rfl
@[simp] theorem PanelWork.setRun_faultRecord (r : Run) (w : PanelWork) : (w.setRun r).unit.faultRecord = w.unit.faultRecord :=
  rfl
@[simp] theorem PanelWork.setRun_tolerated (r : Run) (w : PanelWork) : (w.setRun r).unit.tolerated = w.unit.tolerated :=
  rfl
@[simp] theorem PanelWork.setRun_resetAsserted (r : Run) (w : PanelWork) : (w.setRun r).unit.resetAsserted = w.unit.resetAsserted :=
  rfl
@[simp] theorem PanelWork.setRun_powerAsserted (r : Run) (w : PanelWork) : (w.setRun r).unit.powerAsserted = w.unit.powerAsserted :=
  rfl
@[simp] theorem PanelWork.setRun_attentions (r : Run) (w : PanelWork) : (w.setRun r).unit.attentions = w.unit.attentions :=
  rfl
@[simp] theorem PanelWork.setRun_recoveries (r : Run) (w : PanelWork) : (w.setRun r).unit.recoveries = w.unit.recoveries :=
  rfl
@[simp] theorem PanelWork.setRun_faultEntries (r : Run) (w : PanelWork) : (w.setRun r).unit.faultEntries = w.unit.faultEntries :=
  rfl
@[simp] theorem PanelWork.setRun_attentionLine (r : Run) (w : PanelWork) : (w.setRun r).unit.attentionLine = w.unit.attentionLine :=
  rfl
@[simp] theorem PanelWork.setRun_layersEnabled (r : Run) (w : PanelWork) : (w.setRun r).unit.layersEnabled = w.unit.layersEnabled :=
  rfl
@[simp] theorem PanelWork.setRun_frameRows (r : Run) (w : PanelWork) : (w.setRun r).unit.frameRows = w.unit.frameRows :=
  rfl
@[simp] theorem PanelWork.setRun_packet (r : Run) (w : PanelWork) : (w.setRun r).unit.packet = w.unit.packet := rfl
@[simp] theorem PanelWork.setRun_packetCut (r : Run) (w : PanelWork) : (w.setRun r).unit.packetCut = w.unit.packetCut := rfl
@[simp] theorem PanelWork.setRun_run (r : Run) (w : PanelWork) : (w.setRun r).unit.run = some r := rfl
@[simp] theorem PanelWork.setRun_request (r : Run) (w : PanelWork) : (w.setRun r).request = w.request := rfl
@[simp] theorem PanelWork.ask_unit (slot : ScriptSlot) (w : PanelWork) : (w.ask slot).unit = w.unit := rfl
@[simp] theorem PanelWork.ask_request (slot : ScriptSlot) (w : PanelWork) : (w.ask slot).request = some ⟨slot, false⟩ := rfl
@[simp] theorem PanelWork.ask_notify (slot : ScriptSlot) (w : PanelWork) : (w.ask slot).notify = w.notify := rfl
@[simp] theorem PanelWork.askedByCompletion_unit (w : PanelWork) : w.askedByCompletion.unit = w.unit := rfl
@[simp] theorem PanelWork.askedByCompletion_notify (w : PanelWork) : w.askedByCompletion.notify = w.notify := rfl
@[simp] theorem PanelWork.askedByCompletion_request (w : PanelWork) :
    w.askedByCompletion.request = w.request.map fun q => { q with byCompletion := true } := rfl
@[simp] theorem PanelWork.keepStart_run (env : PanelEnv) (i : StepIndex) (w : PanelWork) :
    (w.keepStart env i).unit.run = w.unit.run.map fun r => { r with completionStart := some (i, env.now) } := rfl
@[simp] theorem PanelWork.keepStart_notify (env : PanelEnv) (i : StepIndex) (w : PanelWork) :
    (w.keepStart env i).notify = w.notify := rfl
@[simp] theorem PanelWork.keepStart_request (env : PanelEnv) (i : StepIndex) (w : PanelWork) :
    (w.keepStart env i).request = w.request := rfl
@[simp] theorem PanelUnit.abort_run (now : Nat) (u : PanelUnit) : (u.abort now).run = none := rfl
@[simp] theorem PanelUnit.abort_packetCut (now : Nat) (u : PanelUnit) :
    (u.abort now).packetCut = (u.packetCut || u.sending now) := rfl
@[simp] theorem PanelUnit.abort_tolerated (now : Nat) (u : PanelUnit) : (u.abort now).tolerated = u.tolerated := rfl
@[simp] theorem PanelUnit.afterReset_packet (now : Nat) (u : PanelUnit) : (u.afterReset now).packet = u.packet := rfl
@[simp] theorem PanelUnit.afterReset_packetCut (now : Nat) (u : PanelUnit) :
    (u.afterReset now).packetCut = (u.packetCut || u.sending now) := rfl
/-- Without a run under way nothing is being sent. -/
@[simp] theorem PanelUnit.sending_of_no_run {u : PanelUnit} (h : u.run = none) (now : Nat) : u.sending now = false := by
  simp only [PanelUnit.sending, h]
/-- After either reset a panel is as the tables of chapters 7 and 8 give, apart from the record of its link's latest
packet. -/
theorem PanelUnit.afterReset_eq (now : Nat) (u : PanelUnit) : u.afterReset now = { PanelUnit.reset u.attentionLine with
    packet := u.packet, packetCut := u.packetCut || u.sending now } := rfl
/-- Keeping the start of a run changes its run context alone. -/
theorem PanelWork.keepStart_unit (env : PanelEnv) (i : StepIndex) (w : PanelWork) :
    (w.keepStart env i).unit = { w.unit with run := (w.keepStart env i).unit.run } := rfl

end Sys2Proof.Machine
end

