-- ==== Sys2Proof/Laws/Ops.lean ====
section
/-! SUPPORT. The shared operations: what each one does, said once, so that later proofs cite it. -/

namespace Sys2Proof.Machine

/-! ## Gates (R176, R189) -/

theorem State.onEvent_in_reset {s : State} (h : s.inReset = true) (work : State → State) :
    s.onEvent work = .next s := by simp [State.onEvent, h]

theorem State.onEvent_running {s : State} (h : s.inReset = false) (work : State → State) :
    s.onEvent work = .next (work s) := by simp [State.onEvent, h]

theorem State.onCommand_closed {s : State} (h : s.portOpen = false) (work : State → State × Reply) :
    s.onCommand work = .next s.droveLow := by simp [State.onCommand, h]

theorem State.onCommand_open {s : State} (h : s.portOpen = true) (work : State → State × Reply) :
    s.onCommand work = .next ((work s).1.hold (work s).2) := by simp [State.onCommand, h]

/-- A command answers the state it leaves: the same one but for SDO while the port is closed, else its work with the reply
held. -/
theorem State.onCommand_next {s t : State} {work : State → State × Reply} (h : s.onCommand work = .next t) :
    (s.portOpen = false ∧ t = s.droveLow) ∨ (s.portOpen = true ∧ t = (work s).1.hold (work s).2) := by
  cases ho : s.portOpen
  · rw [State.onCommand_closed ho] at h
    exact .inl ⟨rfl, by simpa using h.symm⟩
  · rw [State.onCommand_open ho] at h
    exact .inr ⟨rfl, by simpa using h.symm⟩

/-- An event answers the state it leaves: the same one while RESETN is low, else its work. -/
theorem State.onEvent_next {s t : State} {work : State → State} (h : s.onEvent work = .next t) :
    (s.inReset = true ∧ t = s) ∨ (s.inReset = false ∧ t = work s) := by
  cases hr : s.inReset
  · rw [State.onEvent_running hr] at h
    exact .inr ⟨rfl, by simpa using h.symm⟩
  · rw [State.onEvent_in_reset hr] at h
    exact .inl ⟨rfl, by simpa using h.symm⟩

/-- The report after a reply is held: UNREAD joins it when the reply before had not been read (R176). -/
theorem State.hold_linkErrors (r : Reply) (s : State) :
    (s.hold r).port.linkErrors =
      if s.port.reply.isSome = true ∧ s.port.replyRead = false then s.port.linkErrors ||| 0x10#5 else s.port.linkErrors := by
  have hm : LinkError.unread.mask = 0x10#5 := by decide
  simp only [State.hold, Port.hold, hm]
  cases s.port.reply.isSome <;> cases s.port.replyRead <;> rfl

@[simp] theorem refuse_fst (st : Status) (s : State) : (refuse st s).1 = s := rfl
@[simp] theorem refuse_snd (st : Status) (s : State) : (refuse st s).2 = ⟨st, []⟩ := rfl
@[simp] theorem done_fst (s : State) (data : List Byte) : (done s data).1 = s := rfl
@[simp] theorem done_snd (s : State) (data : List Byte) : (done s data).2 = ⟨.done, data⟩ := rfl

/-! ## Counters and settings -/

/-- A counter's value after one event: one more, held at 65535. -/
theorem Count.toNat_bump (c : Count) : (Count.bump c).toNat = min 65535 (c.toNat + 1) := by
  unfold Count.bump
  split
  · next h => subst h; rfl
  · next h =>
    have : c.toNat ≠ 65535 := fun e => h (BitVec.eq_of_toNat_eq (by simpa using e))
    have := c.isLt
    rw [BitVec.toNat_add]
    simp
    omega

theorem Count.le_bump (c : Count) : c.toNat ≤ (Count.bump c).toNat := by
  have := c.isLt
  rw [Count.toNat_bump]
  omega

/-- A counter's value after `n` events. -/
theorem Count.toNat_bumpBy (n : Nat) (c : Count) : (Count.bumpBy n c).toNat = min 65535 (c.toNat + n) := by
  have hc := c.isLt
  induction n with
  | zero => simp [Count.bumpBy]; omega
  | succ n ih =>
    have : Count.bumpBy (n + 1) c = Count.bump (Count.bumpBy n c) := by
      simp only [Count.bumpBy, Function.iterate_succ_apply']
    rw [this, Count.toNat_bump, ih]
    omega

theorem clamp_eq {lo hi : Nat} (h : lo ≤ hi) (n : Nat) : clamp lo hi n = max lo (min hi n) := by
  unfold clamp
  split <;> [skip; split] <;> omega

/-! ## Bytes -/

@[simp] theorem byte1_length (n : Nat) : (byte1 n).length = 1 := rfl
@[simp] theorem byte2_length (n : Nat) : (byte2 n).length = 2 := rfl
@[simp] theorem byte4_length (n : Nat) : (byte4 n).length = 4 := rfl
@[simp] theorem byteOfBool_length (b : Bool) : (byteOfBool b).length = 1 := rfl
@[simp] theorem genBytes_length (g : Gen) : (genBytes g).length = 4 := rfl
@[simp] theorem countBytes_length (c : Count) : (countBytes c).length = 2 := rfl
@[simp] theorem handleByte_length (h : Handle) : (handleByte h).length = 1 := rfl
@[simp] theorem pointBytes_length (p : Point) : (pointBytes p).length = 4 := rfl
@[simp] theorem rectBytes_length (r : Rect) : (rectBytes r).length = 8 := rfl
@[simp] theorem colourBytes_length (c : Colour) : (colourBytes c).length = 3 := rfl

/-- An optional part always takes the same room. -/
theorem optional_length {α : Type} {width : Nat} {enc : α → List Byte} (h : ∀ v, (enc v).length = width) (o : Option α) :
    (optional width enc o).length = width + 1 := by
  cases o <;> simp [optional, h]

/-! ## Flags -/

/-- A raised flag is set, and every other is as before. -/
theorem State.flagged_raise (f g : Flag) (s : State) :
    (s.raise f).flagged g = (s.flagged g || decide (g = f)) := by
  cases f <;> cases g <;> simp [State.flagged, State.raise, Flag.mask, Flag.bit]

theorem State.flagged_raiseIf (b : Bool) (f g : Flag) (s : State) :
    (s.raiseIf b f).flagged g = (s.flagged g || (b && decide (g = f))) := by
  cases b
  · simp
  · simp [State.flagged_raise]

/-! ## An event at a panel -/

/-- An event at panel X touches that panel and the notification flags alone. -/
theorem State.onPanel_frame (x : Panel) (work : PanelEnv → PanelWork → PanelWork) (s : State) :
    s.onPanel x work = { s with
      panelA := (s.onPanel x work).panelA, panelB := (s.onPanel x work).panelB
      port := { s.port with flags := (s.onPanel x work).port.flags } } ∧
    (s.onPanel x work).panel (otherPanel x) = s.panel (otherPanel x) := by
  simp only [State.onPanel]
  generalize (work (s.panelEnv x) ⟨s.panel x, false, none⟩).settle (s.panelEnv x) 8 = w
  cases hn : w.notify <;> cases x <;> exact ⟨rfl, rfl⟩

/-- The panel after an event at it. -/
theorem State.onPanel_panel (x : Panel) (work : PanelEnv → PanelWork → PanelWork) (s : State) :
    (s.onPanel x work).panel x = ((work (s.panelEnv x) ⟨s.panel x, false, none⟩).settle (s.panelEnv x) 8).unit := by
  simp [State.onPanel]

/-- The flags after an event at panel X. -/
theorem State.onPanel_flagged (x : Panel) (work : PanelEnv → PanelWork → PanelWork) (s : State) (g : Flag) :
    (s.onPanel x work).flagged g = (s.flagged g ||
      (((work (s.panelEnv x) ⟨s.panel x, false, none⟩).settle (s.panelEnv x) 8).notify && decide (g = panelFlag x))) := by
  simp only [State.onPanel, State.flagged_raiseIf]
  congr 1
  cases x <;> rfl

/-! ## Change events -/

/-- The delivery of a panel's pair: nothing when it is the one last delivered, else one change event. -/
theorem State.deliverTo_eq (x : Panel) (s : State) :
    ((s.posture.need x).pair = (s.posture.need x).delivered ∧ s.deliverTo x = s) ∨
    ((s.posture.need x).pair ≠ (s.posture.need x).delivered ∧
      s.deliverTo x =
        ({ s with
          posture := s.posture.setNeed x { s.posture.need x with delivered := (s.posture.need x).pair } } : State).onPanel x
          fun env w => w.change env (s.posture.need x).pair) := by
  by_cases h : (s.posture.need x).pair = (s.posture.need x).delivered
  · exact .inl ⟨h, by simp [State.deliverTo, h]⟩
  · exact .inr ⟨h, by simp [State.deliverTo, h]⟩

/-- A delivery changes the delivered pair alone of the Posture Unit, and touches the panel and the flags at most. -/
theorem State.deliverTo_frame (x : Panel) (s : State) :
    s.deliverTo x = { s with
      posture := s.posture.setNeed x { s.posture.need x with delivered := (s.posture.need x).pair }
      panelA := (s.deliverTo x).panelA, panelB := (s.deliverTo x).panelB
      port := { s.port with flags := (s.deliverTo x).port.flags } } ∧
    (s.deliverTo x).panel (otherPanel x) = s.panel (otherPanel x) := by
  rcases s.deliverTo_eq x with ⟨h, e⟩ | ⟨-, e⟩
  · rw [e]
    refine ⟨?_, rfl⟩
    rw [h]
    cases x <;> rfl
  · rw [e]
    have f := State.onPanel_frame x (fun env w => w.change env (s.posture.need x).pair)
      ({ s with posture := s.posture.setNeed x { s.posture.need x with delivered := (s.posture.need x).pair } } : State)
    refine ⟨f.1, f.2.trans ?_⟩
    cases x <;> rfl

@[simp] theorem PostureUnit.need_setNeed (u : PostureUnit) (x : Panel) (n : PanelNeed) : (u.setNeed x n).need x = n := by
  cases x <;> rfl

theorem PostureUnit.need_setNeed_of_ne {x y : Panel} (h : y ≠ x) (u : PostureUnit) (n : PanelNeed) :
    (u.setNeed x n).need y = u.need y := by
  cases x <;> cases y <;> first | rfl | exact absurd rfl h

/-- The change events at the end of an event: the delivered pairs become the pairs in force, the panels and the flags
change at most, and nothing else of the part. -/
theorem State.deliver_frame (s : State) :
    s.deliver = { s with
      posture := { s.posture with
        needA := { s.posture.needA with delivered := s.posture.needA.pair }
        needB := { s.posture.needB with delivered := s.posture.needB.pair } }
      panelA := s.deliver.panelA, panelB := s.deliver.panelB
      port := { s.port with flags := s.deliver.port.flags } } := by
  have a := (s.deliverTo_frame .a).1
  have b := ((s.deliverTo .a).deliverTo_frame .b).1
  unfold State.deliver
  generalize (s.deliverTo .a).deliverTo .b = t at b ⊢
  rw [a] at b
  rw [b]
  rfl

end Sys2Proof.Machine
end

