-- ==== Sys2Proof/Laws/Runs.lean ====
section
/-! SUPPORT. Script runs: how a run can go on, what a completion can ask for, and that every run asked for is started. -/

namespace Sys2Proof.Machine

/-! ## Where a run stands after a step -/

/-- What a run can leave of a panel's work `w`: it waits in a step of its slot, the lines and the packet its own doing, or
it completes, the lines its own doing. -/
inductive RunLeaves (env : PanelEnv) (slot : ScriptSlot) (w : PanelWork) : PanelWork → Prop where
  | waits (r : Run) (reset power : Bool) (packet : List Byte) (cut : Bool) (tolerated : Option StepFailure)
      (hs : r.slot = slot) (hc : 1 ≤ r.count ∧ r.count ≤ 512) :
      RunLeaves env slot w { w with unit := { w.unit with
        run := some r, resetAsserted := reset, powerAsserted := power, packet := packet, packetCut := cut
        tolerated := tolerated } }
  | completes (run : Option Run) (reset power : Bool) (tolerated : Option StepFailure) (failure : Option StepFailure) :
      RunLeaves env slot w (PanelWork.completed env slot failure { w with unit := { w.unit with
        run := run, resetAsserted := reset, powerAsserted := power, tolerated := tolerated } })

theorem PanelWork.transact_leaves (env : PanelEnv) (slot : ScriptSlot) (r : Run) (hs : r.slot = slot)
    (hc : 1 ≤ r.count ∧ r.count ≤ 512) (code : Byte) (args : List Byte) (w : PanelWork) :
    RunLeaves env slot w (w.transact env r code args) := by
  unfold PanelWork.transact
  split
  · exact .waits { r with phase := .waitStart } w.unit.resetAsserted w.unit.powerAsserted w.unit.packet w.unit.packetCut
      w.unit.tolerated hs hc
  · exact .waits { r with phase := .awaitReply (env.now + Config.linkPacketTime (linkPacket code args)) false }
      w.unit.resetAsserted w.unit.powerAsserted _ false w.unit.tolerated hs hc

theorem PanelWork.driveLine_leaves {env : PanelEnv} {slot : ScriptSlot} {w v : PanelWork} {which : PanelLine} {level : Bool}
    (h : RunLeaves env slot (w.driveLine which level) v) : RunLeaves env slot w v := by
  cases h with
  | waits r a p k c t hs hc => cases which <;> exact .waits r a p k c t hs hc
  | completes run a p t f => cases which <;> exact .completes run a p t f

/-- Beginning a step, with at most 512 steps in the run: it waits in a step or completes. -/
theorem PanelWork.beginStep_leaves (env : PanelEnv) (slot : ScriptSlot) (left : Nat) (hl : left ≤ 512) (i : StepIndex)
    (w : PanelWork) : RunLeaves env slot w (w.beginStep env slot left i) := by
  induction left generalizing i w with
  | zero => exact .completes w.unit.run w.unit.resetAsserted w.unit.powerAsserted w.unit.tolerated _
  | succ left ih =>
    have hc : 1 ≤ maxSteps - left ∧ maxSteps - left ≤ 512 := by simp only [maxSteps]; omega
    unfold PanelWork.beginStep
    split
    · exact PanelWork.transact_leaves env slot _ rfl hc _ _ _
    · exact PanelWork.transact_leaves env slot _ rfl hc _ _ _
    · exact PanelWork.transact_leaves env slot _ rfl hc _ _ _
    · exact .waits ⟨slot, i, maxSteps - left, _, env.now, none⟩ w.unit.resetAsserted w.unit.powerAsserted w.unit.packet
        w.unit.packetCut w.unit.tolerated rfl hc
    · apply PanelWork.driveLine_leaves
      split
      · exact .completes _ _ _ _ _
      · exact ih (by omega) _ _
    · exact ih (by omega) _ _
    · exact .completes w.unit.run w.unit.resetAsserted w.unit.powerAsserted w.unit.tolerated none

/-- Going on after a step: the run waits in a step or completes. -/
theorem PanelWork.goOn_leaves (env : PanelEnv) (r : Run) (w : PanelWork) : RunLeaves env r.slot w (w.goOn env r) := by
  unfold PanelWork.goOn
  split
  · exact .completes w.unit.run w.unit.resetAsserted w.unit.powerAsserted w.unit.tolerated _
  · exact PanelWork.beginStep_leaves env r.slot _ (by simp only [maxSteps]; omega) _ w

/-- A step error: tolerated, the run going on, or the run fails. -/
theorem PanelWork.stepError_leaves (env : PanelEnv) (r : Run) (e : StepError) (w : PanelWork) :
    RunLeaves env r.slot w (w.stepError env r e) := by
  simp only [PanelWork.stepError]
  split
  · have h := PanelWork.goOn_leaves env r { w with unit := { w.unit with
      tolerated := some ⟨r.slot, r.index, env.kindAt r.index, e⟩ } }
    generalize PanelWork.goOn env r _ = v at h ⊢
    cases h with
    | waits r' a p k c t hs hc => exact .waits r' a p k c t hs hc
    | completes run a p t f => exact .completes run a p t f
  · exact .completes w.unit.run w.unit.resetAsserted w.unit.powerAsserted w.unit.tolerated _

/-- The judgement of a reply: the run goes on, fails, or waits for the next read of a POLL. -/
theorem PanelWork.judgeReply_leaves (env : PanelEnv) (r : Run) (hc : 1 ≤ r.count ∧ r.count ≤ 512) (reply : LinkReply)
    (w : PanelWork) : RunLeaves env r.slot w (w.judgeReply env r reply) := by
  have go := PanelWork.goOn_leaves env r w
  have err := fun e => PanelWork.stepError_leaves env r e w
  unfold PanelWork.judgeReply
  split
  · exact err _
  · exact go
  · split
    · exact err _
    · split
      · exact go
      · exact err _
  · split
    · exact err _
    · split
      · exact go
      · split
        · exact err _
        · exact .waits { r with phase := .pollGap _ } w.unit.resetAsserted w.unit.powerAsserted w.unit.packet
            w.unit.packetCut w.unit.tolerated rfl hc
  · exact err _

@[simp] theorem PanelUnit.countRecovery_run (now : Nat) (u : PanelUnit) : (u.countRecovery now).run = u.run := by
  unfold PanelUnit.countRecovery
  split <;> rfl

/-- A completion leaves no run under way. -/
theorem PanelWork.completed_run (env : PanelEnv) (slot : ScriptSlot) (failure : Option StepFailure) (w : PanelWork) :
    (w.completed env slot failure).unit.run = none := by
  rcases slot with _ | _ | _ <;> rcases failure with _ | f
  · simp only [PanelWork.completed, PanelWork.askedByCompletion_unit, PanelWork.wakeSucceeds, PanelWork.serveLatched,
      PanelWork.askCheck, PanelWork.lingerFor, PanelWork.startLinger, PanelWork.lingerExpires, PanelWork.removeLinger,
      PanelWork.putToSleep]
    (repeat' split) <;> simp_all
  · rfl
  · simp only [PanelWork.completed, PanelWork.askedByCompletion_unit, PanelWork.sleepSucceeds, PanelWork.wake]
    split <;> simp
  · rfl
  · simp only [PanelWork.completed, PanelWork.askedByCompletion_unit, PanelWork.checkSucceeds, PanelWork.putToSleep]
    split <;> simp
  · simp only [PanelWork.completed, PanelWork.askedByCompletion_unit, PanelWork.checkFails]
    split
    · rfl
    · simp [PanelWork.wake, PanelWork.removeLinger]

/-- Keeping the start changes no more than where the run stands. -/
theorem PanelWork.keepStart_leaves {env : PanelEnv} {slot : ScriptSlot} {w v : PanelWork} (i : StepIndex)
    (h : RunLeaves env slot w v) : RunLeaves env slot w (v.keepStart env i) := by
  cases h with
  | waits r a p k c t hs hc => exact .waits { r with completionStart := some (i, env.now) } a p k c t hs hc
  | completes run a p t f =>
    have e : ∀ v : PanelWork, v.unit.run = none → v.keepStart env i = v := by
      intro v hv
      simp only [PanelWork.keepStart, hv, Option.map_none]
      rw [← hv]
    rw [e _ (PanelWork.completed_run ..)]
    exact .completes run a p t f

/-- The start of a run: it waits in a step or completes. -/
theorem PanelWork.startRun_leaves (env : PanelEnv) (q : RunRequest) (w : PanelWork) :
    RunLeaves env q.slot w (w.startRun env q) := by
  unfold PanelWork.startRun
  split
  · exact .completes w.unit.run w.unit.resetAsserted w.unit.powerAsserted w.unit.tolerated none
  · have h := PanelWork.beginStep_leaves env q.slot maxSteps (by simp only [maxSteps]; omega) ‹_› w
    simp only []
    split
    · exact PanelWork.keepStart_leaves _ h
    · exact h

/-- A command packet is being sent when the run awaits a reply to a packet that has not ended. -/
theorem PanelUnit.sending_iff (now : Nat) (u : PanelUnit) : u.sending now = true ↔
    ∃ r packetEnds lost, u.run = some r ∧ r.phase = .awaitReply packetEnds lost ∧ now < packetEnds := by
  unfold PanelUnit.sending
  split
  · next r hr =>
    split
    · next e l hp =>
      rw [decide_eq_true_iff]
      refine ⟨fun h => ⟨r, e, l, hr, hp, h⟩, ?_⟩
      rintro ⟨r', e', l', a, b, c⟩
      cases hr.symm.trans a
      cases hp.symm.trans b
      exact c
    · next hp =>
      refine ⟨nofun, ?_⟩
      rintro ⟨r', e', l', a, b, _⟩
      cases hr.symm.trans a
      exact absurd b (hp e' l')
  · next hr => simp [hr]

/-! ## The first step of a run -/

/-- What a run keeps of its start: its first index and the moment, when a completion asked for it (R148). -/
def RunRequest.start (q : RunRequest) (i : StepIndex) (now : Nat) : Option (StepIndex × Nat) :=
  if q.byCompletion then some (i, now) else none

/-- A run whose first step is a WAIT waits it out. -/
theorem PanelWork.startRun_wait {env : PanelEnv} {q : RunRequest} {i : StepIndex} {d : Nat}
    (hi : env.slots.get q.slot = some i) (hb : env.steps[i].body = .wait d) (w : PanelWork) :
    w.startRun env q = w.setRun ⟨q.slot, i, 1, .waiting (env.now + 1000 * d), env.now, q.start i env.now⟩ := by
  have e : ∀ v : PanelWork, v.beginStep env q.slot maxSteps i = v.beginStep env q.slot (511 + 1) i := fun _ => rfl
  have c : maxSteps - 511 = 1 := rfl
  simp only [PanelWork.startRun, hi, e, PanelWork.beginStep, hb, c, ms, Nat.mul_comm, RunRequest.start]
  cases q.byCompletion <;> rfl

/-- A run whose first step is a SEND waits for blanking on a panel with a pixel stream. -/
theorem PanelWork.startRun_send {env : PanelEnv} {q : RunRequest} {i : StepIndex} {code : Byte} {args : List Byte}
    {w : PanelWork} (hi : env.slots.get q.slot = some i) (hb : env.steps[i].body = .send code args)
    (hs : w.unit.state.streams = true) :
    w.startRun env q = w.setRun ⟨q.slot, i, 1, .waitStart, env.now, q.start i env.now⟩ := by
  have e : ∀ v : PanelWork, v.beginStep env q.slot maxSteps i = v.beginStep env q.slot (511 + 1) i := fun _ => rfl
  have c : maxSteps - 511 = 1 := rfl
  simp only [PanelWork.startRun, hi, e, PanelWork.beginStep, hb, c, PanelWork.transact, hs, if_true, RunRequest.start]
  cases q.byCompletion <;> rfl

/-- A run of an absent slot succeeds at once. -/
theorem PanelWork.startRun_absent {env : PanelEnv} {q : RunRequest} (hi : env.slots.get q.slot = none) (w : PanelWork) :
    w.startRun env q = w.completed env q.slot none := by
  simp only [PanelWork.startRun, hi]

/-! ## Runs asked for -/

@[simp] theorem PanelWork.settle_none {env : PanelEnv} {w : PanelWork} (h : w.request = none) (n : Nat) :
    w.settle env n = w := by
  cases n <;> simp [PanelWork.settle, h]

theorem PanelWork.settle_some {env : PanelEnv} {w : PanelWork} {q : RunRequest} (h : w.request = some q) (n : Nat) :
    w.settle env (n + 1) = PanelWork.settle env n (PanelWork.startRun env q { w with request := none }) := by
  simp [PanelWork.settle, h]

/-- A bound on the runs still to come, when one is asked for: a WAKE run may serve a latched attention or put the panel to
sleep, a SLEEP run may wake a wanted panel, a CHECK run may do either. -/
def PanelWork.runsToCome (w : PanelWork) : Nat :=
  match w.request with
  | none => 0
  | some ⟨.wake, _⟩ => if w.unit.latched then 4 else if w.unit.wantedIn then 1 else 2
  | some ⟨.sleep, _⟩ => if w.unit.wantedIn then 2 else 1
  | some ⟨.check, _⟩ => if w.unit.latched then 5 else 3

theorem PanelWork.runsToCome_le (w : PanelWork) : w.runsToCome ≤ 5 := by
  unfold PanelWork.runsToCome
  split
  · omega
  · split <;> [skip; split] <;> omega
  · split <;> omega
  · split <;> omega

theorem PanelWork.request_none_of_runsToCome {w : PanelWork} (h : w.runsToCome = 0) : w.request = none := by
  revert h
  unfold PanelWork.runsToCome
  rcases w.request with _ | ⟨_ | _ | _, _⟩
  · simp
  · simp only []
    split <;> [skip; split] <;> simp
  · simp only []
    split <;> simp
  · simp only []
    split <;> simp

@[simp] theorem PanelWork.askedByCompletion_runsToCome (w : PanelWork) : w.askedByCompletion.runsToCome = w.runsToCome := by
  unfold PanelWork.runsToCome PanelWork.askedByCompletion
  rcases w.request with _ | ⟨_ | _ | _, _⟩ <;> rfl

/-- A completion asks for fewer runs than the run that it ends. -/
theorem PanelWork.completed_runsToCome (env : PanelEnv) (slot : ScriptSlot) (b : Bool)
    (failure : Option StepFailure) (w : PanelWork) (hn : w.request = none) :
    (w.completed env slot failure).runsToCome < ({ w with request := some ⟨slot, b⟩ } : PanelWork).runsToCome := by
  simp only [PanelWork.completed, PanelWork.askedByCompletion_runsToCome]
  cases slot <;> cases failure
  · simp only [PanelWork.wakeSucceeds]
    by_cases hd : w.unit.demandIn = true <;> by_cases hw : w.unit.wantedIn = true <;>
      by_cases hl : w.unit.latched = true <;> by_cases hz : env.lingerTime = 0 <;> by_cases hc : env.slots.check.isSome = true <;>
      simp [PanelWork.runsToCome, PanelWork.serveLatched, PanelWork.askCheck, PanelWork.lingerFor, PanelWork.startLinger,
        PanelWork.lingerExpires, PanelWork.removeLinger, PanelWork.putToSleep, PanelWork.enter, PanelWork.ask,
        PanelState.streams, hd, hw, hl, hz, hc, hn]
  · simp only [PanelWork.faultAt, PanelWork.fault, PanelWork.enter, PanelWork.runsToCome, hn]
    split <;> [skip; split] <;> omega
  · by_cases hw : w.unit.wantedIn = true <;>
      simp [PanelWork.sleepSucceeds, PanelWork.runsToCome, PanelWork.wake, PanelWork.enter,
        PanelWork.ask, hw, hn]
  · simp only [PanelWork.faultAt, PanelWork.fault, PanelWork.enter, PanelWork.runsToCome, hn]
    split <;> omega
  · by_cases hl : w.unit.latched = true <;> by_cases hw : w.unit.wantedIn = true <;> by_cases hh : w.unit.linger = .held <;>
      simp [PanelWork.checkSucceeds, PanelWork.putToSleep, PanelWork.runsToCome, PanelWork.enter,
        PanelWork.ask, hl, hw, hh, hn]
  · simp only [PanelWork.checkFails]
    split
    · simp only [PanelWork.faultAt, PanelWork.fault, PanelWork.enter, PanelWork.removeLinger, PanelWork.runsToCome, hn]
      split <;> omega
    · cases hr : w.unit.recoveryWindow <;> by_cases hl : w.unit.latched = true <;> by_cases hw : w.unit.wantedIn = true <;>
        simp [PanelWork.wake, PanelWork.enter, PanelWork.ask, PanelWork.removeLinger, PanelWork.runsToCome,
          PanelUnit.countRecovery, hl, hw]

/-- A run started leaves fewer runs to come. -/
theorem PanelWork.startRun_runsToCome {env : PanelEnv} {q : RunRequest} {w : PanelWork} (h : w.request = some q) :
    (PanelWork.startRun env q { w with request := none }).runsToCome < w.runsToCome := by
  obtain ⟨slot, b⟩ := q
  have e : w = { w with request := some ⟨slot, b⟩ } := by rw [← h]
  have l := PanelWork.startRun_leaves env ⟨slot, b⟩ { w with request := none }
  generalize PanelWork.startRun env ⟨slot, b⟩ { w with request := none } = v at l ⊢
  rw [e]
  cases l with
  | waits r a p k c t hs hc =>
    simp only [PanelWork.runsToCome]
    cases slot <;> simp only [] <;> split <;> first | omega | (split <;> omega)
  | completes run a p t f =>
    refine (PanelWork.completed_runsToCome env slot b f _ rfl).trans_eq ?_
    cases slot <;> rfl

/-- EVERY RUN ASKED FOR IS STARTED within the event: no request is left over. -/
theorem PanelWork.settle_request {env : PanelEnv} {w : PanelWork} {n : Nat} (h : w.runsToCome ≤ n) :
    (w.settle env n).request = none := by
  induction n generalizing w with
  | zero => exact PanelWork.request_none_of_runsToCome (w := w) (by omega)
  | succ n ih =>
    rcases hr : w.request with _ | q
    · rw [PanelWork.settle_none hr]
      exact hr
    · rw [PanelWork.settle_some hr]
      exact ih (by have := PanelWork.startRun_runsToCome (env := env) hr; omega)

/-- More fuel than the runs to come changes nothing. -/
theorem PanelWork.settle_enough {env : PanelEnv} {w : PanelWork} {n m : Nat} (hn : w.runsToCome ≤ n) (hm : w.runsToCome ≤ m) :
    w.settle env n = w.settle env m := by
  induction n generalizing w m with
  | zero => rw [PanelWork.settle_none (PanelWork.request_none_of_runsToCome (by omega)), PanelWork.settle_none
      (PanelWork.request_none_of_runsToCome (by omega))]
  | succ n ih =>
    rcases hr : w.request with _ | q
    · rw [PanelWork.settle_none hr, PanelWork.settle_none hr]
    · have := PanelWork.startRun_runsToCome (env := env) hr
      obtain ⟨m, rfl⟩ : ∃ k, m = k + 1 := ⟨m - 1, by omega⟩
      rw [PanelWork.settle_some hr, PanelWork.settle_some hr]
      exact ih (by omega) (by omega)

theorem PanelWork.settle_eight_request (env : PanelEnv) (w : PanelWork) : (w.settle env 8).request = none :=
  PanelWork.settle_request (w.runsToCome_le.trans (by omega))

end Sys2Proof.Machine
end

