-- ==== Sys2Proof/Laws/Work.lean ====
section
/-! SUPPORT. What the work of a sample completion and of an output frame start can change, said once. -/

namespace Sys2Proof.Machine

/-! ## Posture work (chapter 2) -/

/-- A new state of the Posture Unit is delivered: its delivered pairs become the pairs in force. -/
theorem State.setPosture_frame (u : PostureUnit) (s : State) :
    s.setPosture u = { s with
      posture := { u with
        needA := { u.needA with delivered := u.needA.pair }
        needB := { u.needB with delivered := u.needB.pair } }
      panelA := (s.setPosture u).panelA, panelB := (s.setPosture u).panelB
      port := { s.port with flags := (s.setPosture u).port.flags } } :=
  State.deliver_frame { s with posture := u }

/-- Posture work changes the Posture Unit, the panels and the flags at most. -/
theorem State.postureWork_frame (report : AngleReport) (s : State) :
    s.postureWork report = { s with
      posture := (s.postureWork report).posture
      panelA := (s.postureWork report).panelA, panelB := (s.postureWork report).panelB
      port := { s.port with flags := (s.postureWork report).port.flags } } := by
  simp only [State.postureWork]
  generalize (({ s.posture with report := report } : PostureUnit)).takePendingZones.evaluate = u
  have f := State.deliver_frame { s with posture := u.resolveDemands.evaluatePreDemands }
  generalize State.deliver { s with posture := u.resolveDemands.evaluatePreDemands } = t at f ⊢
  rw [f]
  cases decide (u.posture ≠ s.posture.posture) <;> rfl

/-- A sample completion changes the Hinge Unit, the Posture Unit, the panels and the flags at most. -/
theorem State.completeSample_frame (sm : Sample) (s : State) :
    s.completeSample sm = { s with
      hinge := (s.hinge.complete s.port.straps sm).unit
      posture := (s.completeSample sm).posture
      panelA := (s.completeSample sm).panelA, panelB := (s.completeSample sm).panelB
      port := { s.port with flags := (s.completeSample sm).port.flags } } := by
  simp only [State.completeSample]
  generalize s.hinge.complete s.port.straps sm = w
  have f := State.postureWork_frame w.unit.angle.report
    (({ s with hinge := w.unit }.raiseIf w.angleFault .angleFault).raiseIf w.calDone .calDone)
  generalize State.postureWork w.unit.angle.report
    (({ s with hinge := w.unit }.raiseIf w.angleFault .angleFault).raiseIf w.calDone .calDone) = t at f ⊢
  rw [f]
  cases w.angleFault <;> cases w.calDone <;> rfl

/-- The delivery of a panel's pair, as the panel sees it. -/
theorem State.deliverTo_work (x : Panel) (s : State) :
    (s.deliverTo x).panel x = (s.eventWork x (s.posture.need x).delivered (s.posture.need x).pair).unit ∧
    ∀ g, (s.deliverTo x).flagged g = (s.flagged g ||
      ((s.eventWork x (s.posture.need x).delivered (s.posture.need x).pair).notify && decide (g = panelFlag x))) := by
  unfold State.eventWork
  rcases s.deliverTo_eq x with ⟨h, e⟩ | ⟨h, e⟩
  · simp [e, h]
  · simp only [e, h, if_false]
    exact ⟨by rw [State.onPanel_panel]; cases x <;> rfl, fun g => by rw [State.onPanel_flagged]; cases x <;> rfl⟩

/-- The delivery of both pairs, as the panels and the flags see it. -/
theorem State.setPosture_work (u : PostureUnit) (s : State) :
    let w := fun x => s.eventWork x (u.need x).delivered (u.need x).pair
    (∀ x, (s.setPosture u).panel x = (w x).unit) ∧
    ∀ g, (s.setPosture u).flagged g = true ↔ s.flagged g = true ∨ ∃ x, g = panelFlag x ∧ (w x).notify = true := by
  have a := State.deliverTo_work .a { s with posture := u }
  have fa := State.deliverTo_frame .a { s with posture := u }
  have b := State.deliverTo_work .b (({ s with posture := u } : State).deliverTo .a)
  have fb := (({ s with posture := u } : State).deliverTo .a).deliverTo_frame .b
  have e : s.setPosture u = (({ s with posture := u } : State).deliverTo .a).deliverTo .b := rfl
  have env : ∀ l p, (({ s with posture := u } : State).deliverTo .a).eventWork .b l p = s.eventWork .b l p := by
    intro l p
    have hp : (({ s with posture := u } : State).deliverTo .a).panel .b = s.panel .b := fa.2
    have he : (({ s with posture := u } : State).deliverTo .a).panelEnv .b = s.panelEnv .b := by rw [fa.1]; rfl
    simp only [State.eventWork, hp, he]
  have need : (({ s with posture := u } : State).deliverTo .a).posture.need .b = u.need .b := by rw [fa.1]; rfl
  rw [env, need] at b
  rw [e]
  refine ⟨fun x => ?_, fun g => ?_⟩
  · cases x
    · exact fb.2.trans a.1
    · exact b.1
  · rw [b.2, a.2]
    simp only [Bool.or_eq_true, Bool.and_eq_true, decide_eq_true_eq, or_assoc]
    constructor
    · rintro (h | ⟨h, rfl⟩ | ⟨h, rfl⟩)
      · exact .inl h
      · exact .inr ⟨.a, rfl, h⟩
      · exact .inr ⟨.b, rfl, h⟩
    · rintro (h | ⟨x, rfl, h⟩)
      · exact .inl h
      · cases x
        · exact .inr (.inl ⟨h, rfl⟩)
        · exact .inr (.inr ⟨h, rfl⟩)

/-- A new state of the Posture Unit, its pre-demands evaluated and its pairs not delivered yet, and POSTURE raised when the
posture changed: posture work and nothing else. -/
theorem State.setPosture_works {u : PostureUnit} {s : State} {changed : Bool}
    (hc : changed = true ↔ u.posture ≠ s.posture.posture)
    (hd : ∀ x, (u.need x).delivered = (s.posture.need x).delivered)
    (hp : ∀ x, (u.need x).preDemand = u.preDemandOf x) :
    s.PostureWorkOnly ((s.setPosture u).raiseIf changed .posture) := by
  have f := State.setPosture_frame u s
  have w := State.setPosture_work u s
  have p : ∀ x, ((s.setPosture u).raiseIf changed .posture).panel x = (s.setPosture u).panel x := by
    intro x; cases x <;> simp [State.panel]
  generalize s.setPosture u = t at *
  have hw : ∀ x, s.delivered (t.raiseIf changed .posture) x = s.eventWork x (u.need x).delivered (u.need x).pair := by
    intro x; unfold State.delivered; rw [State.raiseIf_posture, f, ← hd]; cases x <;> rfl
  refine ⟨by rw [f]; cases changed <;> rfl, fun x => ⟨?_, ?_, ?_⟩, fun g => ?_⟩
  · rw [State.raiseIf_posture, f]
    have := hp x
    cases x <;> exact this
  · rw [State.raiseIf_posture, f]; cases x <;> rfl
  · rw [hw, p, w.1]
  · have hq : (t.raiseIf changed .posture).posture.posture = u.posture := by rw [State.raiseIf_posture, f]
    simp only [hw, hq, ← hc, State.flagged_raiseIf, Bool.or_eq_true, Bool.and_eq_true, decide_eq_true_eq, w.2]
    generalize (∃ x, g = panelFlag x ∧ (s.eventWork x (u.need x).delivered (u.need x).pair).notify = true) = raised
    tauto

/-- Posture evaluation changes the posture and the dwell alone (R30 to R33). -/
theorem PostureUnit.evaluate_frame (u : PostureUnit) :
    u.evaluate = { u with posture := u.evaluate.posture, dwelling := u.evaluate.dwelling } := by
  unfold PostureUnit.evaluate
  split
  · simp only [PostureUnit.evaluateAt]
    split <;> [skip; split] <;> rfl
  · rfl

/-- A pending zone table comes in force, whole or not at all (R27). -/
theorem PostureUnit.takePendingZones_frame (u : PostureUnit) :
    u.takePendingZones = { u with
      zones := u.pendingZones.getD u.zones, pendingZones := none, dwelling := u.takePendingZones.dwelling } := by
  unfold PostureUnit.takePendingZones
  cases h : u.pendingZones with
  | none => simp only [Option.getD_none]; rw [← h]
  | some z => rfl

/-- The state of the Posture Unit after posture work: zones, posture and dwell as R29 leaves them, its demands those in
force, and its settings kept. -/
theorem State.postureWork_posture (report : AngleReport) (s : State) :
    let u := ({ s.posture with report := report }).takePendingZones.evaluate
    let t := s.postureWork report
    t.posture = { s.posture with
      zones := s.posture.pendingZones.getD s.posture.zones, pendingZones := none, report := report
      posture := u.posture, dwelling := u.dwelling, needA := t.posture.needA, needB := t.posture.needB } ∧
    ∀ x, (t.posture.need x).demand = t.posture.demandOf x := by
  have h : (s.postureWork report).posture = (s.setPosture
      (({ s.posture with report := report }).takePendingZones.evaluate.resolveDemands.evaluatePreDemands)).posture :=
    State.raiseIf_posture _ _ _
  have e := ({ s.posture with report := report }).takePendingZones.evaluate_frame
  rw [({ s.posture with report := report } : PostureUnit).takePendingZones_frame] at e
  rw [State.setPosture_frame] at h
  simp only [h]
  refine ⟨?_, fun x => ?_⟩
  · rw [({ s.posture with report := report } : PostureUnit).takePendingZones_frame, e]
    rfl
  · cases x <;> rfl

/-- Posture work at a sample completion, in the order of R29: what evaluation leaves, resolved and delivered. -/
theorem State.postureWork_works (report : AngleReport) (s : State) :
    s.PostureWorkOnly (s.postureWork report) := by
  have h : s.postureWork report = ((s.setPosture
      (({ s.posture with report := report }).takePendingZones.evaluate.resolveDemands.evaluatePreDemands)).raiseIf
      (({ s.posture with report := report }).takePendingZones.evaluate.posture ≠ s.posture.posture) .posture) := rfl
  rw [h]
  have hd : ∀ x, ((({ s.posture with report := report }).takePendingZones.evaluate).need x).delivered = (s.posture.need x).delivered := by
    intro x
    rw [PostureUnit.evaluate_frame, PostureUnit.takePendingZones_frame]
    cases x <;> rfl
  refine State.setPosture_works (by simp [PostureUnit.resolveDemands, PostureUnit.evaluatePreDemands]) ?_ ?_
  · intro x; rw [← hd]; cases x <;> rfl
  · intro x; cases x <;> rfl

/-! ## Output frame starts (chapters 4 to 6) -/

/-- A flag that an event may set changes the flags alone. -/
theorem State.raiseIf_flags (b : Bool) (g : Flag) (s : State) :
    ∃ f, s.raiseIf b g = { s with port := { s.port with flags := f } } := by
  cases b <;> exact ⟨_, rfl⟩

/-- A composition changes the Composition Unit, the frames that the panels begin and the flags alone. -/
theorem State.compose_frame (s : State) :
    s.compose = { s with
      comp := s.comp.after s.scene
      panelA := s.panelA.beginFrame, panelB := s.panelB.beginFrame
      port := { s.port with flags := s.compose.port.flags } } := by
  obtain ⟨f, e⟩ : ∃ f, s.compose = ({ s with
      comp := s.comp.after s.scene, panelA := s.panelA.beginFrame, panelB := s.panelB.beginFrame
      port := { s.port with flags := f } } : State) := by
    unfold State.compose
    obtain ⟨f1, e1⟩ := State.raiseIf_flags (s.scene.joins s.comp.reflow ≠ []) .reflow ({ s with
      comp := s.comp.after s.scene, panelA := s.panelA.beginFrame, panelB := s.panelB.beginFrame } : State)
    simp only [e1]
    obtain ⟨f2, e2⟩ := State.raiseIf_flags (handles.any (s.scene.handedOver s.comp.memory)) .handover ({ s with
      comp := s.comp.after s.scene, panelA := s.panelA.beginFrame, panelB := s.panelB.beginFrame
      port := { s.port with flags := f1 } } : State)
    rw [e2]
    exact State.raiseIf_flags _ _ _
  rw [e]

/-- The end of blanking changes a panel's run alone. -/
theorem PanelUnit.blankingEnds_frame (u : PanelUnit) : u.blankingEnds = { u with run := u.blankingEnds.run } := by
  unfold PanelUnit.blankingEnds
  split
  · split
    · split <;> rfl
    · rfl
  · rfl

/-- The end of blanking keeps a run in its step: it can only lose an awaited reply. -/
theorem PanelUnit.blankingEnds_run (u : PanelUnit) :
    u.blankingEnds.run = u.run ∨ ∃ r packetEnds lost,
      u.run = some r ∧ r.phase = .awaitReply packetEnds lost ∧
        u.blankingEnds.run = some { r with phase := .awaitReply packetEnds true } := by
  unfold PanelUnit.blankingEnds
  split
  · next r hr =>
    split
    · next packetEnds lost hp =>
      split
      · exact .inr ⟨r, packetEnds, lost, hr, hp, rfl⟩
      · exact .inl rfl
    · exact .inl rfl
  · exact .inl rfl

/-- The Frame Store's part of an output frame start changes the Frame Store, SHOWN and the flags at most. -/
theorem State.frameOut_frame (s : State) :
    s.frameOut = { s with
      frame := (s.frame.frameOut).beginPeriod s.now
      table := if s.frame.captureState.isComplete then s.table.flip else s.table
      port := { s.port with flags := s.frameOut.port.flags } } := by
  simp only [State.frameOut]
  cases s.frame.captureState.isComplete && s.table.flipShowsNew <;> rfl

/-- Entering a state without a pixel stream ends the stream at that moment (R124). -/
theorem PanelWork.enter_ends_stream (env : PanelEnv) (new : PanelState) (w : PanelWork) (h : new.streams = false) :
    (w.enter env new).unit.streaming = false := by
  simp only [PanelUnit.streaming, PanelWork.enter_state, h, Bool.false_and]

end Sys2Proof.Machine
end

