-- ==== Sys2Proof/Tests/Slice0.lean ====
section
/-! SUPPORT. Tests: the checks of WellFormed, packets and one step at a time against the spec's worked examples, and for
every statement with hypotheses a witness that meets them. -/

namespace Sys2Proof.Tests

-- One test after the other: checked all at once, their threads' stacks pass the memory limit of the check.
set_option Elab.async false

open Machine

/-! ## Helpers -/

/-- The state that an outcome goes on with; the reset state where it stops. -/
def after : Result → State
  | .next s => s
  | .fault _ => State.reset
  | .refused _ => State.reset

/-- The state after one command. -/
def ran (c : Instr) (s : State) : State := after (exec c s)

/-- The reply held after one command. -/
def replyTo (c : Instr) (s : State) : Option Reply := (ran c s).port.reply

/-- Out of reset, the start-up window closed. -/
def running : State := { State.reset with inReset := false }

/-- Both panels LIVE and demanded in FLAT. -/
def livePanel : PanelUnit :=
  { PanelUnit.reset false with state := .live, demandIn := true, wantedIn := true, resetAsserted := false, powerAsserted := true }

/-- The part with both panels LIVE, the posture and the angle in BOOK, FLAT and so on as given. -/
def settled (p : Posture) (angle : Nat) : State :=
  { running with
    panelA := livePanel
    panelB := livePanel
    posture := { running.posture with
      posture := some p, report := .tracking angle
      needA := ⟨true, false, ⟨true, true⟩⟩, needB := ⟨true, false, ⟨true, true⟩⟩ } }

/-- A raw step from its bytes. -/
def raw (l : List Byte) : RawStep := Vector.ofFn fun i : Fin 14 => l.getD i.val 0

/-- Script Memory with steps from index 0 and the slots of panel A and B alike. -/
def scripted (steps : List Step) (slots : Slots) (s : State) : State :=
  { s with scripts := ⟨writeSteps 0 steps s.scripts.steps, slots, slots⟩ }

/-- The entry fields of a source rectangle at a home origin on panel A, shown in every posture, CROP. -/
def fields : RawEntry := ⟨40, 0, 0, 1200, 1680, 0, 0, 0, 0, 0, 0, 0, 0, 0, 3, 0, 63⟩

/-- The entry of those fields. -/
def entry : Entry := ⟨40, ⟨0, 0, 1200, 1680⟩, .a, ⟨0, 0⟩, none, none, 3, .crop, 63⟩

/-- A table with entries by handle in every view. -/
def tabled (v : View) (s : State) : State :=
  { s with table := { s.table with draft := v, capture := ⟨7, v⟩, shown := ⟨7, v⟩, register := 7 } }

/-- A view with one entry. -/
def only (h : Handle) (e : Entry) : View := View.empty.set h (some e)

/-! ## WellFormed refuses -/

theorem test_wellFormed_line_shorter_than_its_pixels : ¬ WellFormed (.lineEnd 1 [⟨0, 0, 0⟩, ⟨1, 1, 1⟩]) := by decide +kernel
theorem test_wellFormed_good_packet_is_no_error : ¬ WellFormed (.commandLinkError [0x5A, 0x01, 0x00, 0x15]) := by decide +kernel
theorem test_wellFormed_five_steps : ¬ WellFormed (.scriptWrite 0 (List.replicate 5 (Vector.replicate 14 0))) := by decide +kernel
theorem test_wellFormed_mode_that_is_a_mode : ¬ WellFormed (.trackModeInvalidMode 2 0) := by decide +kernel

/-! ## Packets (9.2, 9.3) -/

/-- "So the whole IDENTIFY transaction is 0x5A, 0x01, 0x00, 0x15" (R175). -/
theorem test_identify_packet : decodeTransaction [0x5A, 0x01, 0x00, 0x15] = some .identify := by decide +kernel
theorem test_identify_sent : encodeTransaction .identify = some [0x5A, 0x01, 0x00, 0x15] := by decide +kernel
/-- "the reply held after a SOFT RESET reads back as 0x01, 0x00, 0x00, 0x00, 0x00, 0x62" (R175). -/
theorem test_soft_reset_reply : (ran .softReset running).port.replyBytes = [0x01, 0x00, 0x00, 0x00, 0x00, 0x62] := by decide +kernel
/-- ENTRY RETIRE with length 2 and a right check is LENGTH; a wrong check is CHECK (9.2, a damaged packet). -/
theorem test_retire_of_two_bytes :
    linkErrorOf ([0x5A, 0x32, 0x02, 0x04, 0x00] ++ [crc8 [0x32, 0x02, 0x04, 0x00]]) = some .length := by decide +kernel
theorem test_wrong_check : linkErrorOf [0x5A, 0x44, 0x00, 0x00] = some .check := by decide +kernel
/-- HINGE CONFIG, least significant byte first (R179). -/
theorem test_hinge_config_bytes :
    decodeTransaction (commandPacket 0x10 [0x14, 0x00, 0x02, 0x00, 0x2C, 0x01]) = some (.hingeConfig 20 2 300) := by decide +kernel
/-- TRACK MODE FORCE BOOK: mode 2, posture 2 (R179). -/
theorem test_track_mode_force_bytes : decodeTransaction (commandPacket 0x25 [2, 2]) = some (.trackModeForce 2) := by decide +kernel
theorem test_track_mode_of_no_mode : decodeTransaction (commandPacket 0x25 [3, 2]) = some (.trackModeInvalidMode 3 2) := by
  decide +kernel
/-- SCRIPT WRITE of one WAIT of 120 ms at index 5: kind 3, duration 0x0078 (R179). -/
theorem test_script_write_bytes :
    decodeTransaction (commandPacket 0x50 ([5, 3, 0x78, 0] ++ List.replicate 11 0)) =
      some (.scriptWrite 5 [raw [3, 0x78, 0]]) := by decide +kernel
theorem test_wait_step : stepOf (raw [3, 0x78, 0]) = some ⟨false, .wait 120⟩ := by decide +kernel
theorem test_poll_step :
    stepOf (raw [0x82, 0xB4, 1, 0x01, 0, 0, 0, 0x01, 0, 0, 0, 20, 200, 0]) =
      some ⟨true, .poll 0xB4 [(0x01, 0x01)] 20 200⟩ := by decide +kernel
theorem test_step_of_kind_seven : stepOf (raw [7]) = none := by decide +kernel
/-- The table gives no row bits. -/
theorem test_no_table_word : decodeTableWord 0 0 = none := by decide +kernel

/-! ## Hinge Unit (chapter 1) -/

/-- The pivot delta examples of 1.3. -/
theorem test_delta_examples :
    signedDelta false 4000 1020 = 1116 ∧ signedDelta true 100 3070 = 1126 ∧ signedDelta true 100 2000 = 2196 ∧
      signedDelta false 4000 3990 = -10 ∧ clampDelta 2196 = 2048 ∧ clampDelta (-10) = 0 := by decide +kernel

/-- A sample whose reads are both awaited, begun at 0. -/
def awaited : Sample := ⟨0, .waiting, .waiting, false⟩

/-- The reads of a sample begin at the expiry, and the next expiry is 10 ms on (R1). -/
theorem test_sample_starts :
    (ran .sampleIntervalExpiry { running with now := 10000, hinge := { running.hinge with nextSampleAt := 10000 } }).hinge.sample =
        some ⟨10000, .waiting, .waiting, false⟩ ∧
      (ran .sampleIntervalExpiry { running with now := 10000 }).hinge.nextSampleAt = 20000 := by decide +kernel

/-- A part whose left pivot has answered the sample in flight with 1000, the other read awaited. -/
def halfRead : State := { running with hinge := { running.hinge with sample := some { awaited with left := .fresh 1000 } } }

/-- Both pivots at 1000 counts: A = floor((2000 × 3600 + 2048) / 4096) = 1758, seeded in ACQUIRING (R6, R8, R10). -/
theorem test_first_angle :
    (ran (.sensorReply .right 1000 true) halfRead).hinge.instant = some 1758 ∧
      (ran (.sensorReply .right 1000 true) halfRead).hinge.angle = .tracking (1758 * 256) := by decide +kernel

/-- A reply with field-OK clear is a miss, and with no last good raw no angle is produced (R2, R10). -/
theorem test_reply_without_field :
    (ran (.sensorReply .right 1000 false) halfRead).hinge.angle = .acquiring ∧
      (ran (.sensorReply .right 1000 false) halfRead).hinge.right.missTotal = 1 := by decide +kernel

/-- A read with no reply ends 1 ms after its request (R2); the fifth miss in a row faults the angle (R11). -/
theorem test_fifth_miss_faults :
    let s := { halfRead with hinge := { halfRead.hinge with
      angle := .tracking (1200 * 256), right := { halfRead.hinge.right with lastGood := some 1000, missRun := 4 } } }
    (ran (.sensorReadTimeout .right) s).hinge.angle = .faulted (1200 * 256) ⟨false, true, false⟩ 0 ∧
      (ran (.sensorReadTimeout .right) s).now = 1000 ∧
      (ran (.sensorReadTimeout .right) s).flagged .angleFault = true := by decide +kernel

/-- "2 → 5; 9 → 4; 0 → 8" and "70 → 50; 300 → 255" (1.8). -/
theorem test_hinge_config_clamps :
    replyTo (.hingeConfig 2 9 0) running = some ⟨.done, [5, 0, 4, 0, 8, 0]⟩ ∧
      replyTo (.hingeConfig 70 0 300) running = some ⟨.done, [50, 0, 0, 0, 255, 0]⟩ := by decide +kernel

theorem test_zero_write :
    replyTo (.zeroWrite 4096 0) running = some ⟨.range, []⟩ ∧
      (ran (.zeroWrite 4095 7) running).hinge.left.zero = 4095 ∧
      (ran (.zeroWrite 4095 7) running).hinge.seedPending = true := by decide +kernel

theorem test_zero_capture :
    replyTo .zeroCapture running = some ⟨.started, []⟩ ∧
      replyTo .zeroCapture (ran .zeroCapture running) = some ⟨.busy, []⟩ := by decide +kernel

theorem test_zero_read : replyTo .zeroRead running = some ⟨.done, [0, 0, 0, 0, 0, 0, 0, 0, 0]⟩ := by decide +kernel

/-- ACQUIRING, every optional field absent, the settings 10, 2 and 91 in force (R22, R23). -/
theorem test_hinge_read :
    replyTo .hingeRead running = some ⟨.done,
      List.replicate 38 0 ++ [10, 0, 2, 0, 91, 0] ++ List.replicate 10 0⟩ := by decide +kernel

/-! ## Posture Unit (chapter 2) -/

/-- TENT at 2500 when a table that empties TENT's zone comes in force (2.1, example). -/
theorem test_tent_emptied :
    let s := { settled .tent 2500 with posture := { (settled .tent 2500).posture with
      pendingZones := some ⟨150, 700, 1500, 2050, 2050⟩ } }
    let u := (s.postureWork (.tracking 2500)).posture
    u.zones.b5 = 2050 ∧ u.pendingZones = none ∧ u.posture = some .tent ∧ u.dwelling = some ⟨.backfold, 1⟩ := by
  decide +kernel

/-- PEEK at 550 pre-demands panel B, at 520 not; at 712 there is no trigger and at 790 the dwell of BOOK completes (2.3). -/
theorem test_opening_from_peek :
    let u := fun a d => ({ running.posture with posture := some .peek, report := .tracking a, dwelling := d } : PostureUnit)
    (u 520 none).preDemandOf .b = false ∧ (u 550 none).preDemandOf .b = true ∧ (u 712 none).evaluate.dwelling = none ∧
      (u 735 none).evaluate.dwelling = some ⟨.book, 1⟩ ∧ (u 790 (some ⟨.book, 2⟩)).evaluate.posture = some .book := by
  decide +kernel

theorem test_zones_write :
    replyTo (.zonesWrite 150 700 1500 2050 3601) running = some ⟨.range, []⟩ ∧
      (ran (.zonesWrite 150 700 1500 2050 2050) running).posture.pendingZones = some ⟨150, 700, 1500, 2050, 2050⟩ := by
  decide +kernel

theorem test_zones_read :
    replyTo .zonesRead running = some ⟨.done, [150, 0, 188, 2, 220, 5, 2, 8, 228, 12] ++ List.replicate 11 0⟩ := by
  decide +kernel

/-- "250 → 100", "0 → 1", "500 → 300" (2.3). -/
theorem test_posture_config_clamps :
    replyTo (.postureConfig 250 0 500) running = some ⟨.done, [100, 0, 1, 0, 44, 1]⟩ := by decide +kernel

/-- PEEK with demand ON for B wants B at once. -/
theorem test_profile_write :
    replyTo (.profileWrite 6 ⟨0, 0, 0, 0, 0, 0, 0, 0⟩) running = some ⟨.range, []⟩ ∧
      (ran (.profileWrite 1 ⟨2, 0, 0, 0, 0, 0, 0, 0⟩) { running with posture := { running.posture with
        posture := some .peek } }).posture.needB.delivered = ⟨true, true⟩ := by decide +kernel

/-- The default profile of TENT: both ON, panel B turned (R37). -/
theorem test_profile_read : replyTo (.profileRead 4) running = some ⟨.done, [0, 0, 0, 1, 0, 0, 0, 0]⟩ := by decide +kernel

theorem test_track_mode_track :
    (ran .trackModeTrack { running with posture := { running.posture with dwelling := some ⟨.book, 2⟩ } }).posture.dwelling =
      none := by decide +kernel

/-- HOLD ends the pre-demand of panel B in PEEK at 600 (R35, R42). -/
theorem test_track_mode_hold :
    let u := { running.posture with
      posture := some .peek, report := .tracking 600, needA := ⟨true, false, ⟨true, true⟩⟩, needB := ⟨false, true, ⟨false, true⟩⟩ }
    (ran .trackModeHold { running with posture := u }).posture.needB = ⟨false, false, ⟨false, false⟩⟩ := by decide +kernel

/-- FORCE BOOK demands both panels and sets POSTURE; with no script they are LIVE at once (R36, R133, R155). -/
theorem test_track_mode_force :
    (ran (.trackModeForce 2) running).posture.posture = some .book ∧
      (ran (.trackModeForce 2) running).panelB.state = .live ∧
      (ran (.trackModeForce 2) running).port.flags = 0b1100000001#10 := by decide +kernel

theorem test_track_mode_invalid : replyTo (.trackModeInvalidMode 3 0) running = some ⟨.range, []⟩ := by decide +kernel

/-- In PEEK the lead panel alone is demanded (R37, R40, R41). -/
theorem test_lead_set :
    let s := ran (.trackModeForce 1) running
    (ran (.leadSet 1) s).posture.needA.demand = false ∧ (ran (.leadSet 1) s).panelB.state = .live := by decide +kernel

/-- NONE, TRACK, ACQUIRING; hysteresis 30, dwell 3, margin 150; lead A; both demands OFF (R46, R47). -/
theorem test_posture_read :
    replyTo .postureRead running = some ⟨.done,
      [6, 0, 0, 0, 0, 0, 0, 0, 0, 0, 0, 0, 0, 0, 30, 0, 3, 0, 150, 0, 0, 1, 1, 0, 0, 0, 0, 0]⟩ := by decide +kernel

/-! ## Placement Table (chapter 3) and publishing (chapter 4) -/

/-- Handles 0, 1 and 3 in DRAFT, 0 to 3 in CAPTURE and SHOWN of generation 7 (3.4, a handle retired and reused). -/
def retiredTwo : State :=
  let v := (((View.empty.set 0 (some entry)).set 1 (some entry)).set 3 (some entry) : View)
  { tabled (v.set 2 (some entry)) running with table := { (tabled (v.set 2 (some entry)) running).table with draft := v } }

theorem test_entry_bind_passes_over_retiring :
    replyTo (.entryBind fields) retiredTwo = some ⟨.done, [4]⟩ ∧
      replyTo (.entryBind { fields with sw := 2401 }) retiredTwo = some ⟨.range, []⟩ := by decide +kernel

/-- ENTRY SET of STYLE and GUEST, the source carried with it not judged (3.6, example). -/
theorem test_entry_set_two_groups :
    let e : Entry := { entry with guestAt := some ⟨0, 0⟩, visibility := 0b011110 }
    let f : RawEntry := { fields with sw := 3000, sh := 10, priority := 6, fit := 1, visibility := 0b001100 }
    (ran (.entrySet 5 0b010100 f) (tabled (only 5 e) running)).table.draft[5] =
        some { e with guestAt := none, priority := 6, fit := .halve, visibility := 0b001100 } ∧
      replyTo (.entrySet 5 0b010101 f) (tabled (only 5 e) running) = some ⟨.range, []⟩ := by decide +kernel

theorem test_entry_retire :
    (ran (.entryRetire 5) (tabled (only 5 entry) running)).table.status 5 = .retiring ∧
      replyTo (.entryRetire 2) retiredTwo = some ⟨.absent, []⟩ := by decide +kernel

theorem test_tag_retire : replyTo (.tagRetire 40) retiredTwo = some ⟨.done, [3]⟩ := by decide +kernel

theorem test_tag_find : replyTo (.tagFind 40) retiredTwo = some ⟨.done, [3, 0, 1, 3]⟩ := by decide +kernel

/-- The record of handle 5 in SHOWN of generation 7 (R65). -/
theorem test_entry_read :
    replyTo (.entryRead 5 3) (tabled (only 5 entry) running) = some ⟨.done,
      [5, 3, 1, 7, 0, 0, 0, 40, 0, 0, 0, 0, 0, 176, 4, 144, 6, 0, 0, 0, 0, 0, 0, 0, 0, 0, 0, 0, 0, 0, 0, 0, 3, 0, 63]⟩ := by
  decide +kernel

/-- ENTRY STATUS of a retired handle: RETIRING, not in DRAFT, 7 in CAPTURE and SHOWN (3.7, example). -/
theorem test_entry_status :
    replyTo (.entryStatus 2) retiredTwo = some ⟨.done,
      [2, 3, 0, 0, 0, 0, 0, 0, 1, 7, 0, 0, 0, 1, 7, 0, 0, 0]⟩ := by decide +kernel

/-- A second publish supersedes the first: superseded 4 to 5 (4.5, two publishes between frames). -/
theorem test_table_publish :
    let s := { running with table := { running.table with register := 9, superseded := 4, staged := some ⟨9, only 2 entry⟩ } }
    (ran .tablePublish s).table.superseded = 5 ∧ replyTo .tablePublish s = some ⟨.done, [10, 0, 0, 0]⟩ := by decide +kernel

/-- The revert brings handle 2 back and answers with generation 7 (3.6). -/
theorem test_draft_revert :
    (ran .draftRevert retiredTwo).table.status 2 = .active ∧
      replyTo .draftRevert retiredTwo = some ⟨.done, [7, 0, 0, 0]⟩ := by decide +kernel

/-! ## Frame Store (chapter 4) -/

/-- The part with the capture bank in a state. -/
def capturing (c : CaptureBank) : State := { running with frame := { running.frame with captureState := c } }

/-- A source frame start truncates a frame in progress and binds STAGED (R72, R80). -/
theorem test_source_frame_start :
    let s := { capturing (.filling 900 true) with table := { running.table with staged := some ⟨12, only 2 entry⟩, register := 12 } }
    (ran .sourceFrameStart s).frame.truncated = 1 ∧ (ran .sourceFrameStart s).frame.captureState = .filling 0 false ∧
      (ran .sourceFrameStart s).table.capture.gen = 12 ∧ (ran .sourceFrameStart s).table.staged = none ∧
      (ran .sourceFrameStart s).flagged .frameLoss = true := by decide +kernel

/-- A line of 2398 pixels marks the frame and leaves the row's last two pixels (R71). -/
theorem test_short_line :
    (ran (.lineEnd 2398 []) (capturing (.filling 900 false))).frame.captureState = .filling 901 true := by decide +kernel

theorem test_line_stored :
    (ran (.lineEnd 3 [⟨1, 2, 3⟩, ⟨0, 0, 0⟩, ⟨0, 0, 0⟩]) (capturing (.filling 4 false))).frame.capture = [(4, [⟨1, 2, 3⟩])] := by
  decide +kernel

theorem test_source_frame_end :
    (ran .sourceFrameEnd (capturing (.filling 1680 false))).frame.captureState = .complete ∧
      (ran .sourceFrameEnd (capturing (.filling 1679 false))).frame.malformed = 1 := by decide +kernel

/-- A flip shows CAPTURE and pulses FRMREQ; a FILLING bank is repeated without a pulse (4.4, a frame in time and a frame
late). -/
theorem test_output_frame_start :
    let s := { capturing .complete with table := { running.table with capture := ⟨12, only 2 entry⟩, register := 12 } }
    (ran .outputFrameStart s).table.shown.gen = 12 ∧ (ran .outputFrameStart s).frame.frmreq = some 16667 ∧
      (ran .outputFrameStart (capturing (.filling 1400 false))).frame.repeats = 1 ∧
      (ran .outputFrameStart (capturing (.filling 1400 false))).frame.frmreq = none := by decide +kernel

theorem test_frmreq_pulse_end :
    let s := { running with now := 5, frame := { running.frame with frmreq := some 5 } }
    (ran .frmreqPulseEnd s).frame.frmreq = none ∧ (ran .frmreqPulseEnd s).now = 7 := by decide +kernel

theorem test_timing_set :
    (ran (.timingSet 120) running).frame.rate = .hz120 ∧ replyTo (.timingSet 61) running = some ⟨.range, []⟩ ∧
      replyTo (.timingSet 60) (settled .flat 2000) = some ⟨.state, []⟩ := by decide +kernel

/-- 60 Hz, EMPTY, the blank frame, generations and counters 0 (R86, R87). -/
theorem test_frame_status :
    replyTo .frameStatus running = some ⟨.done, 60 :: List.replicate 36 0⟩ := by decide +kernel

/-! ## Composition Unit (chapters 5 and 6) -/

/-- Both panels live in a posture. -/
def bothLive (p : Posture) (shown : Published) : Scene := { (settled p 2000).scene with shown := shown }

/-- Worked fit case 1: 1500 × 1000 at home (100, 200), CROP (5.4). -/
theorem test_fit_case_one :
    ((bothLive .book ⟨7, View.empty⟩).resolve { entry with source := ⟨0, 0, 1500, 1000⟩, homeAt := ⟨100, 200⟩ }).partA =
      some ⟨⟨100, 200, 1100, 1000⟩, ⟨0, 0⟩⟩ := by decide +kernel

/-- Worked fit case 3: 1201 × 400 as a guest, centred, HALVE (5.4). -/
theorem test_fit_case_three :
    (({ (bothLive .book ⟨7, View.empty⟩) with stateA := .dark }).resolve
      { entry with source := ⟨0, 0, 1201, 400⟩, fit := .halve }).shown = some ⟨⟨⟨299, 740, 601, 200⟩, ⟨0, 0⟩⟩, 2⟩ := by
  decide +kernel

/-- Worked fit case 5: 1300 × 600 hidden by its fit (5.4). -/
theorem test_fit_case_five :
    ((bothLive .book ⟨7, View.empty⟩).resolve { entry with source := ⟨0, 0, 1300, 600⟩, fit := .hide }).reason =
      some .hiddenByFit := by decide +kernel

/-- The worked split of entry 7 (5.5). -/
theorem test_worked_split :
    let r := (bothLive .flat ⟨7, View.empty⟩).resolve
      { entry with source := ⟨0, 0, 2400, 1680⟩, spanAt := some ⟨200, 0⟩, fit := .halve }
    r.partA = some ⟨⟨600, 420, 600, 840⟩, ⟨0, 0⟩⟩ ∧ r.partB = some ⟨⟨0, 420, 600, 840⟩, ⟨1200, 0⟩⟩ := by decide +kernel

/-- An entry too wide for its panel. -/
def wide : Entry := { entry with source := ⟨0, 0, 1300, 600⟩ }

/-- Composition 2 of the Reflow List example: 4 and 7 stay, 2 joins at the end (5.6). -/
theorem test_reflow_list_joins :
    let sc := bothLive .book ⟨7, (((View.empty.set 2 (some wide)).set 4 (some wide)).set 7 (some wide) : View)⟩
    sc.reflow [4, 7] = [4, 7, 2] ∧ sc.joins [4, 7] = [2] := by decide +kernel

/-- Eight candidates on panel A (6.2): slots 1, 5, 0, 3, 10, 4, starved 11 and 8, the counter 40 to 42. -/
theorem test_eight_candidates :
    let e := fun p : Fin 8 => some { entry with priority := p }
    let v : View := (((((((View.empty.set 0 (e 5)).set 1 (e 7)).set 3 (e 5)).set 4 (e 2)).set 5 (e 7)).set 8 (e 0)).set 10
      (e 3)).set 11 (e 2)
    let t := (bothLive .book ⟨7, v⟩).stack .a { PanelStack.reset with starvedTotal := 40 }
    t.stack.map Layer.handle = [1, 5, 0, 3, 10, 4] ∧ t.starved = [11, 8] ∧ t.starvedTotal = 42 := by decide +kernel

/-- One pixel under three layers (6.3): the canvas pixels named there, and no other. -/
theorem test_pixel_under_three_layers :
    let p : PanelStack := { PanelStack.reset with stack :=
      [⟨14, 7, ⟨⟨900, 100, 200, 200⟩, ⟨2000, 50⟩⟩, 1⟩, ⟨2, 6, ⟨⟨0, 0, 1200, 840⟩, ⟨0, 0⟩⟩, 2⟩,
       ⟨6, 5, ⟨⟨0, 0, 1200, 1680⟩, ⟨1200, 0⟩⟩, 1⟩] }
    let bank : Bank := [(1600, List.replicate 20 ⟨0, 0, 0⟩ ++ [⟨1, 1, 1⟩])]
    viewerPixel bank p 10 800 = ⟨1, 1, 1⟩ ∧ viewerPixel bank p 11 800 = ⟨0, 0, 0⟩ := by decide +kernel

theorem test_placement_read : replyTo (.placementRead 5) running = some ⟨.absent, []⟩ := by decide +kernel

/-- "REFLOW READ returns one handle, 6, with generation 40" (10.2). -/
theorem test_reflow_read :
    replyTo .reflowRead { running with comp := { running.comp with
      reflow := [6], stackA := { PanelStack.reset with context := ⟨40, ⟨0, 0, 0⟩, false, .live⟩ } } } =
        some ⟨.done, [1, 6, 40, 0, 0, 0]⟩ := by decide +kernel

theorem test_layers_read : replyTo .layersRead running = some ⟨.done, List.replicate 28 0⟩ := by decide +kernel

/-! ## Panel Controllers and Script Engines (chapters 7 and 8) -/

/-- A run of a slot in the step at an index, in a phase. -/
def inRun (slot : ScriptSlot) (i : StepIndex) (phase : Phase) : Option Run := some ⟨slot, i, 1, phase, 0, none⟩

/-- Panel B in SLEEPING, awaiting the reply to its tolerated SEND, with a WAIT 50 to follow (8.5, example). -/
def sleepingB : State :=
  scripted [⟨true, .send 0xC2 []⟩, ⟨false, .wait 50⟩] ⟨none, some 0, none⟩
    { running with panelB := { livePanel with
      state := .sleeping, demandIn := false, wantedIn := false, run := inRun .sleep 0 (.awaitReply 0 false) } }

/-- A REPORT of UNKNOWN is tolerated, recorded, and the run goes on at the WAIT (8.5, example). -/
theorem test_tolerated_report :
    let s := ran (.panelLinkReply .b [0x04, 0x02, crc8 [0x04, 0x02]]) sleepingB
    s.panelB.tolerated = some ⟨.sleep, 0, .send, .reported 2⟩ ∧
      s.panelB.run = some ⟨.sleep, 1, 2, .waiting 50000, 0, none⟩ := by decide +kernel

theorem test_reply_timeout :
    (ran (.replyTimeout .b) sleepingB).panelB.tolerated = some ⟨.sleep, 0, .send, .noReply⟩ ∧
      (ran (.replyTimeout .b) sleepingB).now = 2000 := by decide +kernel

/-- A WAIT's end goes on to the next step, here the END of a WAKE run: LIVE (R134, R166). -/
theorem test_wait_end :
    let s := scripted [⟨false, .wait 5⟩, ⟨false, .finish⟩] ⟨some 0, none, none⟩
      { running with panelA := { livePanel with state := .waking, run := inRun .wake 0 (.waiting 5000) } }
    (ran (.waitEnd .a) s).panelA.state = .live ∧ (ran (.waitEnd .a) s).now = 5000 := by decide +kernel

/-- Panel A in WAKING between two reads of the POLL of the typical wake script (8.7). -/
def pollingA : State :=
  scripted [⟨false, .poll 0xB4 [(0x01, 0x01)] 20 200⟩, ⟨false, .finish⟩] ⟨some 0, none, none⟩
    { running with panelA := { livePanel with state := .waking, run := inRun .wake 0 (.pollGap 20100) } }

theorem test_poll_read_due :
    (ran (.pollReadDue .a) pollingA).panelA.packet = [0x01, 0xB4, 0x00, crc8 [0x01, 0xB4, 0x00]] ∧
      (ran (.pollReadDue .a) pollingA).now = 20100 := by decide +kernel

/-- The POLL runs out and the panel enters FAULT with its step fields (8.7). -/
theorem test_poll_timeout :
    (ran (.pollTimeout .a) pollingA).panelA.faultRecord =
        some ⟨.script, .waking, some (.wake, 0, .poll), some .pollTimeout⟩ ∧
      (ran (.pollTimeout .a) pollingA).now = 200000 := by decide +kernel

/-- Panel B LIVE with the CHECK script of 10.3 in its slot. -/
def checkB : State :=
  scripted [⟨false, .read 0xB4 [(0x81, 0x01)]⟩, ⟨false, .finish⟩] ⟨none, none, some 0⟩ { settled .book 1000 with now := 4000 }

/-- An attention starts a CHECK run that waits for blanking (10.3). -/
theorem test_attention :
    (ran (.attention .b) checkB).panelB.run = some ⟨.check, 0, 1, .waitStart, 4000, none⟩ ∧
      (ran (.attention .b) checkB).panelB.attentions = 1 := by decide +kernel

theorem test_attention_line_release :
    (ran (.attentionLineRelease .b) (ran (.attention .b) checkB)).panelB.attentionLine = false := by decide +kernel

/-- The output frame end of the period falls at 15.667 ms, and 0xB4 is sent (10.3). -/
theorem test_output_frame_end :
    (ran .outputFrameEnd (ran (.attention .b) checkB)).now = 15667 ∧
      (ran .outputFrameEnd (ran (.attention .b) checkB)).panelB.packet = [0x01, 0xB4, 0x00, crc8 [0x01, 0xB4, 0x00]] := by
  decide +kernel

/-- DATA 0x81 fails the mask: the recovery is counted, and its window closes 10 s later (10.3). -/
theorem test_check_mismatch :
    let s := { checkB with now := 15767, panelB := { checkB.panelB with run := inRun .check 0 (.awaitReply 15667 false) } }
    (ran (.panelLinkReply .b [0x03, 0x01, 0x81, crc8 [0x03, 0x01, 0x81]]) s).panelB.recoveryCount = 1 ∧
      (ran (.panelLinkReply .b [0x03, 0x01, 0x81, crc8 [0x03, 0x01, 0x81]]) s).panelB.recoveryWindow = some 10015767 := by
  decide +kernel

/-- The linger expiry puts an idle panel to sleep; with its SLEEP slot absent it is DARK at once (R137, R138, R155). -/
theorem test_linger_expiry :
    let s := { running with panelB := { livePanel with
      state := .idle, demandIn := false, wantedIn := false, linger := .running 2030000 } }
    (ran (.lingerExpiry .b) s).panelB.state = .dark ∧ (ran (.lingerExpiry .b) s).now = 2030000 := by decide +kernel

theorem test_recovery_window_close :
    let s := { running with panelB := { livePanel with recoveryCount := 2, recoveryWindow := some 10015767 } }
    (ran (.recoveryWindowClose .b) s).panelB.recoveryCount = 0 ∧ (ran (.recoveryWindowClose .b) s).now = 10015767 := by
  decide +kernel

theorem test_panel_stop :
    (ran (.panelStop 1) (settled .flat 2000)).panelB.faultRecord = some ⟨.stopped, .live, none, none⟩ ∧
      (ran (.panelStop 1) (settled .flat 2000)).flagged .panelB = true := by decide +kernel

/-- The typical wake script begins with LINE. A change event and a completion start the same run (8.7): a STOP with the
completion names its first step, one at a later moment or on a run that no completion started the step under way (R148). -/
theorem test_panel_stop_with_a_completion :
    let s := scripted [⟨false, .line .power true⟩, ⟨false, .wait 20⟩, ⟨false, .finish⟩] ⟨some 0, none, none⟩ running
    let env := { s.panelEnv .a with now := 0 }
    let wanted : PanelUnit := { PanelUnit.reset false with wantedIn := true }
    let woken := { s with panelA := (({ wanted with state := .sleeping } : PanelUnit).finish env .sleep none).unit }
    let changed := { s with panelA := ((PanelUnit.reset false).changed env ⟨true, true⟩).unit }
    (ran (.panelStop 0) woken).panelA.faultRecord = some ⟨.stopped, .waking, some (.wake, 0, .line), none⟩ ∧
    (ran (.panelStop 0) { woken with now := 5 }).panelA.faultRecord = some ⟨.stopped, .waking, some (.wake, 1, .wait), none⟩ ∧
    (ran (.panelStop 0) changed).panelA.faultRecord = some ⟨.stopped, .waking, some (.wake, 1, .wait), none⟩ := by
  decide +kernel

/-- An abort while the command packet is still being sent cuts it short; from its end on it is whole (R171). -/
theorem test_abort_cuts_the_packet :
    let s := { sleepingB with now := 50, panelB := { sleepingB.panelB with run := inRun .sleep 0 (.awaitReply 100 false) } }
    (ran (.panelStop 1) s).panelB.packetCut = true ∧ (ran (.panelStop 1) { s with now := 100 }).panelB.packetCut = false ∧
    (ran .softReset s).panelB.packetCut = true ∧ (ran (.pinReset 10000) s).panelB.packetCut = true := by decide +kernel

theorem test_panel_restart :
    replyTo (.panelRestart 0) running = some ⟨.state, []⟩ ∧
      (ran (.panelRestart 1) (ran (.panelStop 1) running)).panelB.state = .dark := by decide +kernel

theorem test_panel_check :
    replyTo (.panelCheck 1) checkB = some ⟨.started, []⟩ ∧ replyTo (.panelCheck 0) running = some ⟨.state, []⟩ := by
  decide +kernel

/-- DARK, demand OFF, the linger time 2000 ms in force, reset asserted and power-enable released (R150, R152). -/
theorem test_panel_read :
    replyTo (.panelRead 0) running = some ⟨.done,
      [0, 1, 0, 0, 0, 0, 0, 0, 0, 208, 7, 0, 0] ++ List.replicate 23 0 ++ [0, 1] ++ List.replicate 6 0⟩ := by decide +kernel

theorem test_panel_config : replyTo (.panelConfig 10001) running = some ⟨.done, [16, 39]⟩ := by decide +kernel

/-- A loop that never ends: the step after the 512th is named (8.5, example). -/
theorem test_runaway :
    let s := scripted [⟨false, .wait 1⟩, ⟨false, .goto 0⟩] ⟨some 0, none, none⟩
      { running with panelA := { livePanel with state := .waking, run := some ⟨.wake, 0, 511, .waiting 1000, 0, none⟩ } }
    (ran (.waitEnd .a) s).panelA.faultRecord = some ⟨.script, .waking, some (.wake, 0, .wait), some .runaway⟩ := by
  decide +kernel

theorem test_script_write :
    replyTo (.scriptWrite 253 (List.replicate 4 (raw [6]))) running = some ⟨.range, []⟩ ∧
      (ran (.scriptWrite 255 [raw [3, 120, 0]]) running).scripts.steps[255] = ⟨false, .wait 120⟩ := by decide +kernel

theorem test_script_read :
    replyTo (.scriptRead 0 1) running = some ⟨.done, [0, 6] ++ List.replicate 25 0⟩ := by decide +kernel

theorem test_slot_set :
    (ran (.slotSet 1 2 1 60) running).scripts.slotsB.check = some 60 ∧
      replyTo (.slotSet 1 3 1 60) running = some ⟨.range, []⟩ := by decide +kernel

/-! ## Command Port (chapter 9) -/

/-- The link error report of a reply lost and packets damaged is 0x0016 (9.2, example). -/
theorem test_report_of_damaged_packets :
    let s := { running with port := { running.port with reply := some ⟨.done, []⟩, replyRead := false } }
    let t := ran (.commandLinkError [0x5A, 0x44, 0x00, 0x00]) s
    let u := ran (.commandLinkError ([0x5A, 0x32, 0x02, 0x04, 0x00] ++ [crc8 [0x32, 0x02, 0x04, 0x00]])) t
    (ran .identify u).port.linkErrors = 0x16 := by decide +kernel

theorem test_reply_read_whole :
    let s := ran (.replyRead 6) (ran .softReset running)
    s.port.sdo = .reply [0x01, 0x00, 0x00, 0x00, 0x00, 0x62] ∧ s.port.replyRead = true := by decide +kernel

/-- SDO is low in the kind byte, then the status, and low again throughout the next COMMAND; not driven with CSN high (R173). -/
theorem test_sdo_by_position :
    let s := ran (.replyRead 6) (ran .softReset running)
    s.port.sdo.carries false 0 = some 0 ∧ s.port.sdo.carries false 1 = some 1 ∧ s.port.sdo.carries true 1 = none ∧
      (ran .identify s).port.sdo = .low := by decide +kernel

theorem test_reply_read_short : (ran (.replyRead 3) (ran .softReset running)).port.replyRead = false := by decide +kernel

/-- A REPLY READ of IDENTIFY's reply, cut short by a pin reset after its first data byte: that byte was driven, the next is
low, and the reply is removed (R195). -/
theorem test_reply_read_cut_by_reset :
    let s := ran (.pinReset 10000) (ran (.replyRead 6) (ran .identify running))
    s.port.reply = none ∧ s.port.sdo.carries false 6 = some 0x16 ∧ s.port.sdo.carries false 7 = some 0 ∧
      (ran (.replyRead 12) (ran .identify running)).port.sdo.carries false 7 = some 0x24 := by decide +kernel

theorem test_release_and_window :
    (ran (.resetnRelease ⟨false, false, true⟩) State.reset).posture.lead = .b ∧
      (ran .startUpWindowClose (ran (.resetnRelease ⟨false, false, true⟩) State.reset)).portOpen = true ∧
      (ran .startUpWindowClose (ran (.resetnRelease ⟨false, false, true⟩) State.reset)).now = 2000 := by decide +kernel

theorem test_pin_reset :
    (ran (.pinReset 10000) (settled .flat 2000)).panelA.state = .dark ∧
      (ran (.pinReset 1999) (settled .flat 2000)).panelA.state = .live := by decide +kernel

/-- Part code 0x2416, revision 1, LEADSEL alone high (R188). -/
theorem test_identify :
    replyTo .identify { running with port := { running.port with straps := ⟨false, false, true⟩ } } =
      some ⟨.done, [0x16, 0x24, 0x01, 0x04]⟩ := by decide +kernel

theorem test_soft_reset_keeps_zeros :
    (ran .softReset (ran (.zeroWrite 4000 100) running)).hinge.left.zero = 4000 ∧
      (ran .softReset (ran (.zeroWrite 4000 100) running)).hinge.seedPending = false := by decide +kernel

theorem test_notify_enable :
    replyTo (.notifyEnable 0x03FF 0x0011) running = some ⟨.done, [0x11, 0]⟩ ∧
      replyTo (.notifyEnable 0 0x0400) running = some ⟨.range, []⟩ := by decide +kernel

theorem test_notify_clear :
    replyTo (.notifyClear 0x0001) { running with port := { running.port with flags := 0b1100000001 } } =
      some ⟨.done, [0, 3]⟩ := by decide +kernel

/-- POSTURE set and enabled asserts ALERT (asserted 0: assumption 12). -/
theorem test_notify_read :
    replyTo .notifyRead { running with port := { running.port with flags := 1, enables := 1 } } =
      some ⟨.done, [1, 0, 1, 0, 0]⟩ := by decide +kernel

/-- A transaction joins the queue as its row, and the next step takes it. -/
theorem test_receive :
    (after (step (running.receive [0x5A, 0x37, 0x00, 0x92]))).table.register = 1 := by decide +kernel

/-! ## Witnesses: for each statement, states and operands that meet its hypotheses, clause by clause -/

/-- The steps, commands and transactions. -/
theorem witness_StepRunsTheFrontCommand :
    ({ running with pending := [.identify, .notifyRead] } : State).pending = .identify :: [.notifyRead] := by decide +kernel
theorem witness_EveryCommandAnswersANextState : State.reset.pending = [] := by decide +kernel
theorem witness_TransactionOfACommandDecodesToIt :
    (WellFormed (.scriptWrite 252 (List.replicate 4 (raw [6]))) ∧
      (encodeTransaction (.scriptWrite 252 (List.replicate 4 (raw [6])))).isSome = true) ∧
    (WellFormed (.trackModeInvalidMode 3 0) ∧ (encodeTransaction (.trackModeInvalidMode 3 0)).isSome = true) ∧
    (WellFormed (.scriptWrite 0 []) ∧ (encodeTransaction (.scriptWrite 0 [])).isSome = true) := by decide +kernel
theorem witness_LinkErrorJoinsTheReport :
    linkErrorOf [] = some .framing ∧ linkErrorOf [0x5A, 0x00, 0x3D] = some .length ∧
      linkErrorOf [0x5A, 0x06, 0x00, crc8 [0x06, 0x00]] = some .unknown ∧ running.portOpen = true ∧
      State.reset.portOpen = false := by decide +kernel
theorem witness_ReplyReadReturnsTheHeldReply :
    running.portOpen = true ∧ State.reset.portOpen = false ∧ (0 + 6 ≤ 6) ∧ (5 < 0 + 6) ∧
      (ran .identify running).port.reply = some ⟨.done, [0x16, 0x24, 0x01, 0x00]⟩ ∧ (ran .identify running).portOpen = true ∧
      isHostCommand .identify = true ∧ linkErrorOf [0x5A] = some .framing ∧ ([7] : List Byte)[0]? = some 7 := by
  decide +kernel
theorem witness_EveryGoodCommandMakesOneReply :
    isHostCommand .softReset = true ∧ isHostCommand (.panelRestart 0) = true ∧ running.portOpen = true ∧
      replyTo (.panelRestart 0) running = some ⟨.state, []⟩ := by decide +kernel
theorem witness_ClosedPortAndResetIgnore :
    isHostCommand .identify = true ∧ State.reset.portOpen = false ∧ heldInReset .outputFrameStart = true ∧
      isHostCommand .outputFrameStart = false ∧ State.reset.inReset = true := by decide +kernel
theorem witness_NotifyEnableAndClear :
    running.portOpen = true ∧ 1024 ≤ (0x0400 : Half).toNat ∧ (0x03FF : Half).toNat < 1024 := by decide +kernel
theorem witness_AlertNotifyReadAndIdentify : running.portOpen = true := by decide +kernel
theorem witness_PinResetPutsEveryBlockInItsResetState :
    1999 < 2000 ∧ (2000 ≤ 2000 ∧ 2000 < 10000) ∧ (2000 ≤ 9999 ∧ 9999 < 10000) ∧ 10000 ≤ 10000 := by decide +kernel
theorem witness_ReleaseOfResetOpensTheWindow :
    State.reset.inReset = true ∧ running.inReset = false ∧
      (ran (.resetnRelease ⟨true, true, true⟩) State.reset).inReset = false ∧
      (ran (.resetnRelease ⟨true, true, true⟩) State.reset).port.startUpCloses = some 2000 := by decide +kernel
theorem witness_SoftResetKeepsZerosStrapsAndScripts : running.portOpen = true := by decide +kernel

/-- The Hinge Unit. -/
theorem witness_SampleStartsAtTheIntervalExpiry :
    running.inReset = false ∧ running.hinge.sample = none ∧ halfRead.inReset = false ∧
      halfRead.hinge.sample = some { awaited with left := .fresh 1000 } ∧
      ({ awaited with left := .fresh 1000 } : Sample).read .right = .waiting := by decide +kernel
theorem witness_FirstReadOfASampleWaitsForTheOther :
    running.inReset = false ∧ running.hinge.sample = none ∧ awaited.read .left = .waiting ∧
      awaited.read (otherPivot .left) = .waiting ∧
      ({ running with hinge := { running.hinge with sample := some awaited } } : State).hinge.sample = some awaited := by
  decide +kernel
theorem witness_SecondReadCompletesTheSample :
    halfRead.inReset = false ∧ halfRead.hinge.sample = some { awaited with left := .fresh 1000 } ∧
      ({ awaited with left := .fresh 1000 } : Sample).read .right = .waiting ∧
      ({ awaited with left := .fresh 1000 } : Sample).read (otherPivot .right) ≠ .waiting := by decide +kernel

/-- A sample with both pivots fresh, and one with a miss of the right. -/
def bothFresh (l r : RawCount) : Sample := ⟨0, .fresh l, .fresh r, true⟩
def rightMissed (l : RawCount) : Sample := ⟨0, .fresh l, .miss, true⟩
/-- A Hinge Unit with last good raws. -/
def seen (h : Hinge) : Hinge :=
  { h with left := { h.left with lastGood := some 1000 }, right := { h.right with lastGood := some 1000 } }

theorem witness_SampleMeasuresDeltasSkewAndAngle :
    (2048 ≤ 2048 ∧ Hinge.produces (bothFresh 1000 909) Hinge.reset 1000 909 ∧
      Hinge.produces (bothFresh 1000 908) Hinge.reset 1000 908 ∧
      ((signedDelta false 0 1000 - signedDelta false 0 909).natAbs ≤ 91) ∧
      (91 < (signedDelta false 0 1000 - signedDelta false 0 908).natAbs)) ∧
    (Hinge.produces (rightMissed 1000) (seen Hinge.reset) 1000 1000 ∧
      ¬ ((rightMissed 1000).left.isFresh = true ∧ (rightMissed 1000).right.isFresh = true)) := by
  unfold Hinge.produces
  decide +kernel
theorem witness_FilterStepMovesTowardTheAngle :
    (2 ^ 2 ≤ ((1 : Int) * 256 - 252).natAbs) ∧ (((1 : Int) * 256 - 253).natAbs < 2 ^ 2) ∧ 3600 ≤ 3600 ∧ 921600 ≤ 921600 := by
  decide +kernel
theorem witness_AngleStateFollowsTheSamples :
    let faulty := { seen Hinge.reset with angle := .tracking 256, right := { (seen Hinge.reset).right with missRun := 4 } }
    let held := fun n => { seen Hinge.reset with angle := .faulted 256 ⟨false, true, false⟩ n }
    Hinge.produces (bothFresh 1000 1000) Hinge.reset 1000 1000 ∧ Hinge.reset.angle = .acquiring ∧
    Hinge.produces (rightMissed 1000) faulty 1000 1000 ∧ (faulty.complete ⟨false, false, false⟩ (rightMissed 1000)).unit.right.missRun = 5 ∧
    Hinge.produces (bothFresh 1000 1000) (held 7) 1000 1000 ∧ (held 7).angle = .faulted 256 ⟨false, true, false⟩ 7 ∧
    Hinge.produces (bothFresh 1000 1000) (held 6) 1000 1000 ∧ Hinge.produces (rightMissed 1000) (held 7) 1000 1000 ∧
    (Hinge.reset.complete ⟨false, false, false⟩ (bothFresh 1000 1000)).calDone = false ∧
    (∀ rawL rawR, ¬ Hinge.produces (rightMissed 1000) Hinge.reset rawL rawR) ∧ Hinge.reset.capture = none := by
  have none_seen : ∀ rawL rawR, ¬ Hinge.produces (rightMissed 1000) Hinge.reset rawL rawR := fun _ _ h => nomatch h.2
  unfold Hinge.produces at none_seen ⊢
  refine ⟨?_, ?_, ?_, ?_, ?_, ?_, ?_, ?_, ?_, none_seen, ?_⟩ <;> decide +kernel
theorem witness_ZeroCaptureAveragesSixteenSamples :
    let counting := fun n => { Hinge.reset with capture := some (.counting n ⟨1000, 0⟩ ⟨1000, 0⟩) }
    running.portOpen = true ∧ running.hinge.capture = none ∧ (ran .zeroCapture running).portOpen = true ∧
    (ran .zeroCapture running).hinge.capture.isSome = true ∧ (bothFresh 4095 0).contributes = true ∧
    ((rightMissed 1000).left.isFresh && (rightMissed 1000).right.isFresh) = false ∧
    (ran .zeroCapture running).hinge.capture = some .started ∧
    (counting 14).capture = some (.counting 14 ⟨1000, 0⟩ ⟨1000, 0⟩) ∧
    (counting 15).capture = some (.counting 15 ⟨1000, 0⟩ ⟨1000, 0⟩) ∧ awaited.contributes = false := by decide +kernel
theorem witness_ZeroWriteAndHingeConfig :
    running.portOpen = true ∧ 4095 < (4096 : Half).toNat ∧ (4095 : Half).toNat ≤ 4095 ∧ running.hinge.capture = none ∧
      (ran .zeroCapture running).portOpen = true ∧ (ran .zeroCapture running).hinge.capture.isSome = true := by decide +kernel

/-- The Posture Unit. -/
theorem witness_ZonesAndTriggersNameTheCandidate :
    let u := { PostureUnit.reset false with posture := some .peek }
    Zones.valid Zones.default = true ∧ 3600 ≤ 3600 ∧ (PostureUnit.reset false).posture = none ∧ u.posture = some .peek ∧
    (u.zones.upper .peek + u.hysteresis ≤ 730) ∧ (119 + u.hysteresis < u.zones.lower .peek) ∧
    (729 < u.zones.upper .peek + u.hysteresis ∧ u.zones.lower .peek ≤ 729 + u.hysteresis) ∧
    (120 < u.zones.upper .peek + u.hysteresis ∧ u.zones.lower .peek ≤ 120 + u.hysteresis) := by decide +kernel
theorem witness_PostureMovesAfterItsDwell :
    let u := fun n => ({ PostureUnit.reset false with
      posture := some .peek, report := .tracking 790, dwelling := some ⟨.book, n⟩ } : PostureUnit)
    (PostureUnit.reset false).report = .acquiring ∧ (u 1).mode = .track ∧ (u 1).report = .tracking 790 ∧
    (u 1).candidate 790 = .book ∧ 1 + 1 < (u 1).dwell ∧ (u 2).dwell ≤ 2 + 1 ∧
    (u 2).posture ≠ some ((u 2).candidate 790) ∧ (u 2).posture = some ((u 2).candidate 700) := by decide +kernel
theorem witness_PostureSettingsAreWritten :
    running.portOpen = true ∧ Zones.valid ⟨0, 0, 0, 0, 3600⟩ = true ∧ Zones.valid ⟨0, 0, 0, 0, 3601⟩ = false ∧
    postureOfByte 5 = some .backfold ∧ (profileOf ⟨3, 3, 1, 1, 1, 255, 255, 255⟩).isSome = true ∧ 5 < (6 : Byte).toNat ∧
    profileOf ⟨4, 0, 0, 0, 0, 0, 0, 0⟩ = none ∧ 1 < (2 : Byte).toNat ∧ (1 : Byte).toNat ≤ 1 ∧ running.posture.lead = .a := by
  decide +kernel
theorem witness_TrackModeKeepsOrForcesThePosture :
    running.portOpen = true ∧ 5 < (6 : Byte).toNat ∧ (5 : Byte).toNat = Posture.backfold.number.val := by decide +kernel

/-- The Placement Table. -/
theorem witness_HandleStatusFollowsTheViews :
    Table.reset.status 31 = .free ∧ retiredTwo.table.status 2 = .retiring := by decide +kernel

/-- Every handle in DRAFT. -/
def full : State := tabled (Vector.replicate 32 (some entry)) running

theorem witness_EntryBindGivesTheLowestFreeHandle :
    running.portOpen = true ∧ entryOf { fields with priority := 8 } = none ∧ entryOf fields = some entry ∧
    full.portOpen = true ∧ (∀ h, full.table.status h ≠ .free) ∧ retiredTwo.portOpen = true ∧
    retiredTwo.table.status 4 = .free ∧ (∀ k, k < 4 → retiredTwo.table.status k ≠ .free) := by decide +kernel
theorem witness_EntrySetWritesTheSelectedGroups :
    full.portOpen = true ∧ 31 < (32 : Byte).toNat ∧ (31 : Byte).toNat = (31 : Handle).val ∧ retiredTwo.portOpen = true ∧
    retiredTwo.table.draft[2] = none ∧ full.table.draft[31] = some entry ∧ 64 ≤ (64 : Byte).toNat ∧
    ¬ 64 ≤ (63 : Byte).toNat ∧ (sourceGroup fields).isSome = true ∧ (homeGroup fields).isSome = true ∧
    (guestGroup fields).isSome = true ∧ (spanGroup fields).isSome = true ∧ (styleGroup fields).isSome = true := by
  decide +kernel
theorem witness_RetireAndFindWorkOnDraft :
    retiredTwo.portOpen = true ∧ 31 < (32 : Byte).toNat ∧ (2 : Byte).toNat = (2 : Handle).val ∧
    retiredTwo.table.draft[2] = none ∧ (retiredTwo.table.draft[3]).isSome = true := by decide +kernel
theorem witness_PublishAndRevert :
    running.portOpen = true ∧ running.table.staged = none ∧ (ran .tablePublish running).portOpen = true ∧
    (ran .tablePublish running).table.staged = some ⟨1, View.empty⟩ := by decide +kernel

/-- The Frame Store. -/
theorem witness_SourceFrameStartBeginsAndBinds :
    running.inReset = false ∧ running.frame.captureState = .empty ∧
    (capturing (.filling 1680 true)).frame.captureState = .filling 1680 true ∧
    (capturing .complete).frame.captureState = .complete := by decide +kernel
theorem witness_LineAndFrameEndsFillTheCaptureBank :
    (capturing (.filling 1679 false)).inReset = false ∧
    (capturing (.filling 1679 false)).frame.captureState = .filling 1679 false ∧ 1679 < 1680 ∧
    Bank.wf (capturing (.filling 1679 false)).frame.capture = true ∧
    (capturing (.filling 1680 false)).frame.captureState = .filling 1680 false ∧
    (capturing (.filling 1680 true)).frame.captureState = .filling 1680 true ∧ running.frame.captureState = .empty := by
  decide +kernel
/-- Panel A LIVE with a CHECK run whose reply is awaited; panel B DARK. -/
def awaitingReply : State :=
  { capturing .complete with panelA := { livePanel with run := inRun .check 0 (.awaitReply 15667 false) } }
theorem witness_OutputFrameStartFlipsOrRepeats :
    (capturing .complete).inReset = false ∧ awaitingReply.inReset = false ∧ awaitingReply.panelA.state = .live ∧
    awaitingReply.panelA.run = inRun .check 0 (.awaitReply 15667 false) ∧ awaitingReply.panelB.state ≠ .live ∧
    awaitingReply.panelB.state ≠ .idle := by decide +kernel
/-- Panel A LIVE with a CHECK run whose SEND waits for blanking. -/
def waitingSend : State :=
  scripted [⟨false, .send 0xB4 []⟩] ⟨none, none, some 0⟩
    { settled .book 1000 with panelA := { livePanel with run := inRun .check 0 .waitStart } }
/-- Both panels LIVE: A with a READ and B with a POLL waiting for blanking. -/
def waitingBoth : State :=
  scripted [⟨false, .read 0xB4 [(1, 1)]⟩, ⟨false, .poll 0xB5 [(1, 1)] 20 200⟩] ⟨none, none, some 0⟩
    { settled .book 1000 with
      panelA := { livePanel with run := inRun .check 0 .waitStart }
      panelB := { livePanel with run := inRun .check 1 .waitStart } }
/-- Both panels' packets go out at the one output frame end. -/
theorem test_output_frame_end_for_both :
    (ran .outputFrameEnd waitingBoth).panelA.packet = linkPacket 0xB4 [] ∧
      (ran .outputFrameEnd waitingBoth).panelB.packet = linkPacket 0xB5 [] := by decide +kernel
theorem witness_OutputTimingEvents :
    waitingBoth.inReset = false ∧ waitingBoth.panelA.run = inRun .check 0 .waitStart ∧
    waitingBoth.panelB.run = inRun .check 1 .waitStart ∧ waitingBoth.panelB.state = .live ∧
    waitingBoth.scripts.steps[0].body = .read 0xB4 [(1, 1)] ∧
    waitingBoth.scripts.steps[1].body = .poll 0xB5 [(1, 1)] 20 200 ∧
    running.portOpen = true ∧ (59 : Byte).toNat ≠ 60 ∧ (59 : Byte).toNat ≠ 90 ∧ (59 : Byte).toNat ≠ 120 ∧
    rateOfByte 120 = some .hz120 ∧ (settled .flat 2000).portOpen = true ∧ (settled .flat 2000).panelA.state = .live ∧
    running.panelA.state = .dark ∧ running.panelB.state = .dark ∧ running.inReset = false ∧ running.frame.frmreq = none ∧
    (ran .outputFrameStart running).inReset = false ∧ (ran .outputFrameStart running).frame.frmreq = some 16667 ∧
    running.panelA.run = none ∧ waitingSend.inReset = false ∧ waitingSend.panelA.state.streams = true ∧
    waitingSend.panelA.run = inRun .check 0 .waitStart ∧ waitingSend.scripts.steps[0].body = .send 0xB4 [] ∧
    waitingSend.panelB.run = none := by decide +kernel

/-- The Composition Unit. -/
theorem witness_PlacementKindByTheSixTests :
    running.scene.posture = none ∧ (bothLive .flat ⟨7, View.empty⟩).posture = some .flat ∧
    (0b110111 : BitVec 6).getLsbD Posture.flat.number = false ∧ (63 : BitVec 6).getLsbD Posture.backfold.number = true ∧
    (bothLive .flat ⟨7, View.empty⟩).spanAllowed = true ∧ (bothLive .book ⟨7, View.empty⟩).spanAllowed = false ∧
    (bothLive .flat ⟨7, View.empty⟩).stateOf .a = .live ∧ (bothLive .flat ⟨7, View.empty⟩).stateOf .b = .live ∧
    ({ bothLive .flat ⟨7, View.empty⟩ with stateA := .dark } : Scene).stateOf .a ≠ .live ∧
    ({ bothLive .flat ⟨7, View.empty⟩ with stateA := .dark, stateB := .idle } : Scene).stateOf .b ≠ .live := by
  decide +kernel
theorem witness_PlacementsStayOnPanelAndInSource :
    entry.valid = true ∧ ((bothLive .book ⟨7, View.empty⟩).resolve entry).fit = some .none ∧
    ((bothLive .book ⟨7, View.empty⟩).resolve entry).part .a = some ⟨⟨0, 0, 1200, 1680⟩, ⟨0, 0⟩⟩ ∧ wide.valid = true ∧
    ((bothLive .book ⟨7, View.empty⟩).resolve wide).fit = some .crop ∧
    ((bothLive .book ⟨7, View.empty⟩).resolve { wide with fit := .halve }).fit = some .halve ∧
    ((bothLive .book ⟨7, View.empty⟩).resolve { wide with fit := .hide }).fit = some .hide ∧
    (running.scene.resolve entry).target = none := by decide +kernel
theorem witness_SpanSplitsAtTheFold :
    let sh : Shown := ⟨⟨⟨600, 420, 1200, 840⟩, ⟨0, 0⟩⟩, 2⟩
    (1 ≤ sh.part.rect.w ∧ 1 ≤ sh.part.rect.h ∧ 1199 < 1200) ∧
    (∃ p ∈ spanPartA sh, p.rect.x ≤ 1199 ∧ 1199 < p.rect.x + p.rect.w ∧ p.rect.y ≤ 420 ∧ 420 < p.rect.y + p.rect.h) ∧
    (∃ p ∈ spanPartB sh, p.rect.x ≤ 0 ∧ 0 < p.rect.x + p.rect.w ∧ p.rect.y ≤ 420 ∧ 420 < p.rect.y + p.rect.h) := by
  refine ⟨by decide +kernel, ⟨_, rfl, by decide +kernel⟩, ⟨_, rfl, by decide +kernel⟩⟩
theorem witness_LayersTakeSlotsByPriority :
    (bothLive .book ⟨7, only 0 entry⟩).stateOf .a = .live ∧
    ((bothLive .book ⟨7, only 0 entry⟩).candidates .a).length = 1 ∧ running.scene.stateOf .a ≠ .live ∧
    (bothLive .book ⟨7, only 0 entry⟩).profile.isSome = true ∧ running.scene.profile = none := by decide +kernel
/-- Panel A after a composition that reads SHOWN with one entry. -/
def composed : State := (tabled (only 0 { entry with source := ⟨0, 0, 600, 1680⟩ }) (settled .book 1000)).compose
theorem witness_LinkCarriesTheTopmostLayer :
    (1199 < 1200 ∧ 1679 < 1680) ∧ (composed.panelA.state = .live ∧ running.panelA.state = .dark) ∧ (1200 ≤ 1200 ∧ 1680 ≤ 1680) ∧
    ({ composed with now := 15667 } : State).frame.rate.active ≤ 15667 - composed.frame.periodStart ∧
    (({ composed with now := 8000 } : State).sentRow = some 857 ∧ 857 * 15667 ≤ 1680 * 8000 ∧ 1680 * 8000 < 858 * 15667) ∧ rowContent running.panelA.frameRows 0 = .off ∧
    rowContent composed.panelA.frameRows 1679 = .layers ∧
    rowContent [⟨0, .black⟩] 0 = .black ∧ rowContent [⟨1100, .background⟩, ⟨0, .layers⟩] 1100 = .background ∧
    composed.comp.stackA.stack = [⟨0, 3, ⟨⟨0, 0, 600, 1680⟩, ⟨0, 0⟩⟩, 1⟩] ∧
    (∀ l ∈ composed.comp.stackA.stack, ¬ (l.part.rect.x ≤ 600 ∧ 600 < l.part.rect.x + l.part.rect.w)) ∧
    running.panelA.linkContent = .off ∧ composed.panelA.linkContent ≠ .off ∧ (0 < ({ composed with now := 8000 } : State).nextRow) ∧
    (ran (.panelStop 0) { composed with now := 8000 }).nextRow ≤ 1679 ∧ Instr.panelStop 0 ≠ .softReset ∧
    Instr.panelStop 0 ≠ .outputFrameStart := by decide +kernel

/-- The link carries pixels during the active interval, 1680 rows of 1200 of them, and none in blanking (R123). -/
theorem test_blanking_carries_no_pixels :
    ({ composed with now := 15666 } : State).sentRow = some 1679 ∧
      (({ composed with now := 15666 } : State).linkPixelNow .a 1199).isSome = true ∧
      ({ composed with now := 15667 } : State).linkPixelNow .a 0 = none ∧ composed.linkPixel .a 0 1680 = none ∧
      ({ composed with now := 16000 } : State).nextRow = 1680 := by decide +kernel

/-- Panel A leaves LIVE in the middle of a row: its stream ends at that moment, panel B's goes on (R123, R124). -/
theorem test_stream_ends_in_the_middle_of_a_row :
    let s := { composed with now := 8000 }
    s.sentRow = some 857 ∧ (s.linkPixelNow .a 1199).isSome = true ∧
      (ran (.panelStop 0) s).linkPixelNow .a 1199 = none ∧ ((ran (.panelStop 0) s).linkPixelNow .b 0).isSome = true := by
  decide +kernel

/-- Panel B enters IDLE at row 700 of the period: the rows from there are black, those sent keep their layers (6.5, example). -/
theorem test_rows_after_idle :
    let s := { composed with now := 6528 }
    let t := ran .trackModeHold { s with posture := { s.posture with
      posture := some .shut, needB := ⟨false, true, ⟨true, true⟩⟩ } }
    s.nextRow = 701 ∧ t.panelB.state = .idle ∧ rowContent t.panelB.frameRows 700 = .layers ∧
      rowContent t.panelB.frameRows 701 = .black := by decide +kernel

/-- A WAKE success, not wanted, with linger time 0 goes on from IDLE into SLEEPING, or DARK without a SLEEP slot, and clears
a latched attention without a CHECK run (R134); one into IDLE that stays serves it. -/
theorem test_wake_success_serves_or_clears_the_latch :
    let steps := [⟨false, .wait 5⟩, ⟨false, .send 0xB4 []⟩]
    let env := fun linger sleep => ({ now := 5000, nextRow := 0, lingerTime := linger, slots := ⟨none, sleep, some 1⟩
                                      steps := writeSteps 0 steps ScriptMemory.reset.steps } : PanelEnv)
    let u : PanelUnit := { livePanel with state := .waking, demandIn := false, wantedIn := false, latched := true }
    let at_ := fun linger sleep => (u.finish (env linger sleep) .wake none).unit
    ((at_ 0 (some 0)).state = .sleeping ∧ (at_ 0 (some 0)).latched = false ∧
      (at_ 0 (some 0)).run = firstStep .sleep 0 (.waiting 10000) 5000 true) ∧
    ((at_ 0 none).state = .dark ∧ (at_ 0 none).latched = false ∧ (at_ 0 none).run = none) ∧
    ((at_ 1 none).state = .idle ∧ (at_ 1 none).latched = false ∧
      (at_ 1 none).run = firstStep .check 1 .waitStart 5000 true) := by decide +kernel

/-- The Panel Controllers. -/
def waitEnv (linger : Nat) (steps : List Step) (slots : Slots) : PanelEnv :=
  { now := 5000, nextRow := 0, lingerTime := linger, steps := writeSteps 0 steps ScriptMemory.reset.steps, slots := slots }
def waitSlots : Slots := ⟨some 0, some 0, some 0⟩
def wait5 : List Step := [⟨false, .wait 5⟩]
def send0 : List Step := [⟨false, .send 0xB4 []⟩]
theorem witness_ChangeEventsMoveThePanel :
    let idle := { livePanel with state := .idle, demandIn := false }
    (PanelUnit.reset false).state = .dark ∧ livePanel.state = .live ∧ idle.state = .idle ∧
    (waitEnv 1 [] waitSlots).lingerTime ≠ 0 ∧ (waitEnv 0 wait5 waitSlots).lingerTime = 0 ∧
    ({ idle with run := inRun .check 0 .waitStart } : PanelUnit).run = inRun .check 0 .waitStart ∧ idle.run = none ∧
    (waitEnv 0 [] Slots.reset).slots.sleep = none ∧ (waitEnv 0 [] Slots.reset).slots.wake = none ∧
    (PanelEnv.waitsAt (waitEnv 0 wait5 waitSlots) .sleep 0 5) ∧ (PanelEnv.waitsAt (waitEnv 0 wait5 waitSlots) .wake 0 5) ∧
    (PanelUnit.reset false).latched = false := by
  unfold PanelEnv.waitsAt
  decide +kernel
theorem witness_WakeAndSleepRunsComplete :
    let waking := { livePanel with state := .waking, run := inRun .wake 0 (.waiting 5000) }
    ScriptSlot.wake ≠ .check ∧ waking.state = .waking ∧ waking.latched = false ∧ waking.demandIn = true ∧
    ({ waking with demandIn := false } : PanelUnit).wantedIn = true ∧
    ({ waking with demandIn := false, wantedIn := false } : PanelUnit).wantedIn = false ∧
    (waitEnv 1 [] Slots.reset).lingerTime ≠ 0 ∧ (waitEnv 1 [] Slots.reset).slots.check = none ∧
    (waitEnv 1 send0 waitSlots).slots.check = some 0 ∧ (waitEnv 1 send0 waitSlots).steps[0].body = .send 0xB4 [] ∧
    ({ waking with latched := true } : PanelUnit).latched = true ∧ (waitEnv 1 send0 waitSlots).slots.check.isSome = true ∧
    (waitEnv 0 wait5 waitSlots).lingerTime = 0 ∧ PanelEnv.waitsAt (waitEnv 0 wait5 waitSlots) .sleep 0 5 ∧
    (waitEnv 0 [] Slots.reset).slots.sleep = none ∧ (waitEnv 1 [] Slots.reset).slots.wake = none ∧
    PanelEnv.waitsAt (waitEnv 1 wait5 waitSlots) .wake 0 5 := by
  unfold PanelEnv.waitsAt
  decide +kernel
theorem witness_CheckRunsRecoverOrFault :
    livePanel.linger ≠ .held ∧ ({ livePanel with linger := .held } : PanelUnit).linger = .held ∧
    PanelEnv.waitsAt (waitEnv 0 wait5 waitSlots) .sleep 0 5 ∧ PanelEnv.waitsAt (waitEnv 0 wait5 waitSlots) .wake 0 5 ∧
    3 ≤ ({ livePanel with recoveryCount := 2, recoveryWindow := some 9 } : PanelUnit).recoveryCount + 1 ∧
    ({ livePanel with recoveryCount := 1, recoveryWindow := some 9 } : PanelUnit).recoveryCount + 1 < 3 ∧
    livePanel.recoveryWindow = none ∧ (waitEnv 1 [] Slots.reset).slots.sleep = none ∧
    (waitEnv 1 [] Slots.reset).slots.wake = none ∧ (waitEnv 1 [] Slots.reset).lingerTime ≠ 0 ∧ livePanel.demandIn = true ∧
    livePanel.latched = false ∧ ({ livePanel with demandIn := false } : PanelUnit).wantedIn = true ∧
    ({ livePanel with demandIn := false, wantedIn := false } : PanelUnit).wantedIn = false := by
  unfold PanelEnv.waitsAt
  decide +kernel
theorem witness_AttentionIsCountedLatchedOrServed :
    State.reset.inReset = true ∧ running.inReset = false ∧ running.panelA.attentionLine = false ∧
    (ran (.attention .a) running).panelA.attentionLine = true ∧ running.panelA.state = .dark ∧
    checkB.panelB.state.streams = true ∧ (ran (.attention .b) checkB).panelB.run.isSome = true ∧
    (settled .flat 2000).scripts.slotsA.check = none ∧ sleepingB.panelB.state = .sleeping ∧
    waitingSend.panelB.attentionLine = false ∧ (waitingSend.scripts.slots .b).check.isSome = true ∧
    waitingSend.panelB.run = none ∧ (waitingSend.scripts.slots .b).check = some 0 ∧
    waitingSend.scripts.steps[0].body = .send 0xB4 [] ∧ waitingSend.panelB.state.streams = true := by decide +kernel
/-- Panel B idle, its linger timer running, a WAIT 5 in every slot. -/
def lingering : State :=
  scripted wait5 waitSlots { running with panelB := { livePanel with
    state := .idle, demandIn := false, wantedIn := false, linger := .running 2030000 } }
theorem witness_LingerExpiryAndWindowClose :
    lingering.inReset = false ∧ lingering.panelB.linger = .running 2030000 ∧ lingering.panelB.run = none ∧
    PanelEnv.waitsAt (lingering.panelEnv .b) .sleep 0 5 ∧ running.panelB.linger = .absent ∧
    ({ lingering.panelB with run := inRun .check 0 .waitStart } : PanelUnit).run.isSome = true ∧
    lingering.panelB.wantedIn = false ∧ running.panelB.recoveryWindow = none ∧ (running.scripts.slots .b).sleep = none ∧
    ({ livePanel with recoveryWindow := some 9 } : PanelUnit).recoveryWindow = some 9 := by
  unfold PanelEnv.waitsAt
  decide +kernel
theorem witness_PanelCommandsAct :
    let faulted := fun wanted => { livePanel with
      state := .fault, demandIn := wanted, wantedIn := wanted, faultRecord := some ⟨.stopped, .live, none, none⟩ }
    sleepingB.panelB.sending 0 = false ∧
    ({ sleepingB.panelB with run := inRun .sleep 0 (.awaitReply 100 false) } : PanelUnit).sending 50 = true ∧
    running.portOpen = true ∧ 1 < (2 : Byte).toNat ∧ panelOfByte 1 = some .b ∧ (faulted true).state = .fault ∧
    livePanel.state ≠ .fault ∧ (faulted false).wantedIn = false ∧ (faulted true).wantedIn = true ∧
    (faulted true).demandIn = true ∧ (faulted true).latched = false ∧
    (({ faulted true with demandIn := false } : PanelUnit).wantedIn = true ∧ (faulted false).demandIn = false) ∧ (running.scripts.slots .b).wake = none ∧
    PanelEnv.waitsAt (lingering.panelEnv .b) .wake 0 5 ∧ running.panelB.state.streams = false ∧
    (ran (.attention .b) checkB).panelB.run.isSome = true ∧ (running.scripts.slots .b).check = none ∧
    waitingSend.panelB.state.streams = true ∧ waitingSend.panelB.run = none ∧
    (waitingSend.scripts.slots .b).check = some 0 := by
  unfold PanelEnv.waitsAt
  decide +kernel

/-- The Script Engines. -/
theorem witness_RunEventsReachTheStepUnderWay :
    running.inReset = false ∧ running.panelA.run = none ∧ sleepingB.inReset = false ∧
    sleepingB.panelB.run = inRun .sleep 0 (.awaitReply 0 false) ∧ validReply [0x02, crc8 [0x02]] = some .ack ∧
    validReply [0x02, 0x00] = none ∧ pollingA.panelA.run = inRun .wake 0 (.pollGap 20100) ∧
    pollingA.scripts.steps[0].body = .poll 0xB4 [(0x01, 0x01)] 20 200 ∧ pollingA.panelA.state.streams = false ∧
    ({ livePanel with run := inRun .check 0 (.pollGap 20100) } : PanelUnit).state.streams = true ∧
    (inRun .wake 0 .waitStart).isSome = true ∧ (inRun .wake 0 (.waiting 5000)).isSome = true ∧
    (inRun .check 0 (.awaitReply 0 true)).isSome = true ∧ sleepingB.scripts.steps[0].body = .send 0xC2 [] := by
  decide +kernel
theorem witness_RunGoesFromStepToStep :
    let env := waitEnv 0 [⟨true, .send 0xB4 [1]⟩, ⟨false, .read 0xB4 [(1, 1)]⟩, ⟨false, .poll 0xB4 [(1, 1)] 20 200⟩,
      ⟨false, .wait 2000⟩, ⟨false, .line .power true⟩, ⟨false, .goto 255⟩, ⟨false, .finish⟩] waitSlots
    (env.slots.get .wake = some 0 ∧ (waitEnv 0 [] Slots.reset).slots.get .wake = none) ∧
    ((⟨livePanel, false, some ⟨.check, false⟩⟩ : PanelWork).request = some ⟨.check, false⟩ ∧
      (⟨livePanel, false, none⟩ : PanelWork).request = none) ∧
    ((⟨{ livePanel with state := .idle, linger := .held }, false, none⟩ : PanelWork).completed env .check none).request =
      some ⟨.sleep, true⟩ ∧
    511 < 512 ∧ env.steps[0].body = .send 0xB4 [1] ∧ env.steps[1].body = .read 0xB4 [(1, 1)] ∧
    env.steps[2].body = .poll 0xB4 [(1, 1)] 20 200 ∧ env.steps[3].body = .wait 2000 ∧
    env.steps[4].body = .line .power true ∧ env.steps[5].body = .goto 255 ∧ env.steps[6].body = .finish ∧
    livePanel.state.streams = true ∧ (PanelUnit.reset false).state.streams = false ∧ env.steps[0].tolerate = true ∧
    env.steps[1].tolerate = false ∧ (255 : StepIndex).val = 255 := by decide +kernel
theorem witness_RepliesAreJudgedByStepKind :
    ([0x02] : List Byte) ≠ [] ∧ 1 ≤ ([1, 2, 3, 4, 5, 6, 7, 8] : List Byte).length ∧
    ([1, 2, 3, 4, 5, 6, 7, 8] : List Byte).length ≤ 8 ∧ 16 ≤ (16 : Byte).toNat ∧
    (∀ q ∈ ([0x01] : List Byte).zip [((0x81 : Byte), (0x01 : Byte))], q.1 &&& q.2.1 = q.2.2) ∧
    (∃ q ∈ ([0x81] : List Byte).zip [((0x81 : Byte), (0x01 : Byte))], q.1 &&& q.2.1 ≠ q.2.2) ∧
    0 + 1000 * 200 ≤ 200000 ∧ 199999 < 0 + 1000 * 200 := by
  refine ⟨by decide, by decide, by decide, by decide, by simp, by simp, by norm_num, by norm_num⟩
theorem witness_ScriptMemoryIsWrittenWhole :
    running.portOpen = true ∧ stepOf (raw [7]) = none ∧ (stepOf (raw [6])).isSome = true ∧ ¬ 256 < (252 : Byte).toNat + 4 ∧
    256 < (253 : Byte).toNat + 4 ∧ running.runInFlight = false ∧ waitingSend.portOpen = true ∧ waitingSend.runInFlight = true ∧
    panelOfByte 1 = some .b ∧ slotOfByte 2 = some .check ∧ (1 : Byte).toNat ≤ 1 ∧ 2 < (3 : Byte).toNat ∧
    stepOf (raw [0x82, 0xB4, 1, 0x01, 9, 9, 9, 0x01, 9, 9, 9, 255, 0xD0, 0x07]) =
      some ⟨true, .poll 0xB4 [(0x01, 0x01)] 255 2000⟩ ∧
    stepOf (raw [2, 0xB4, 1, 0x01, 0, 0, 0, 0x01, 0, 0, 0, 255, 0xD1, 0x07]) = none := by decide +kernel

/-- The reads. -/
theorem witness_PlainReadsAnswerDone :
    running.portOpen = true ∧ isPlainRead .frameStatus = true ∧ running.hinge.capture = none ∧
    (ran .zeroCapture running).hinge.capture = some .started ∧
    replyTo .layersRead running = some ⟨.done, List.replicate 28 0⟩ := by decide +kernel
theorem witness_IndexedReadsAnswerTheirRecord :
    full.portOpen = true ∧ 5 < (6 : Byte).toNat ∧ (5 : Byte).toNat = Posture.backfold.number.val ∧
    profileOf ⟨2, 2, 0, 0, 0, 0, 0, 0⟩ = some full.posture.profiles[Posture.backfold.number] ∧ 31 < (32 : Byte).toNat ∧
    (31 : Byte).toNat = (31 : Handle).val ∧ full.comp.records[31].inShown = false ∧
    composed.comp.records[0].inShown = true ∧ 3 < (4 : Byte).toNat ∧ (3 : Byte).toNat ≤ 3 ∧
    full.table.shown.view[31] = some entry ∧ running.table.shown.view[31] = none ∧
    entryOf { fields with guestPresent := 1, spanPresent := 1 } =
      some { entry with guestAt := some ⟨0, 0⟩, spanAt := some ⟨0, 0⟩ } ∧
    (ran (.entryBind { fields with guestPresent := 1, spanPresent := 1 }) running).table.draft[0] =
      some { entry with guestAt := some ⟨0, 0⟩, spanAt := some ⟨0, 0⟩ } ∧
    panelOfByte 0 = some .a ∧ 1 < (2 : Byte).toNat ∧
    1 ≤ (4 : Byte).toNat ∧ (4 : Byte).toNat ≤ 4 ∧ (252 : Byte).toNat + (4 : Byte).toNat ≤ 256 ∧
    256 < (253 : Byte).toNat + (4 : Byte).toNat := by decide +kernel

/-- The whole machine. -/
theorem witness_EachPartChangesAtItsOwnEventsAlone :
    (ran (.entryBind fields) running).table.draft ≠ running.table.draft ∧
    (ran (.trackModeForce 2) running).posture.posture ≠ running.posture.posture := by decide +kernel
theorem witness_FlagsFaultsAndCountersLast :
    let s := { ran (.panelStop 0) running with port := { running.port with flags := 1 } }
    s.port.flags.getLsbD 0 = true ∧ (ran (.notifyClear 1) s).port.flags.getLsbD 0 = false ∧ s.panelA.state = .fault ∧
    s.panelA.runSound = true ∧ s.panelA.faultSound = true ∧
    ({ s.hinge with angle := .tracking 0 } : Hinge).angle ≠ .acquiring := by decide +kernel
/-- A part in FLAT whose angle is held for one lost sensor, a zero capture under way. -/
def heldAngle : State :=
  { settled .flat 2000 with hinge := { running.hinge with
    angle := .faulted 512000 ⟨false, true, false⟩ 7, instant := some 3600, capture := some (.counting 15 ⟨0, -30720⟩ ⟨0, 30705⟩) } }
theorem witness_StepKeepsSettingsAndAnglesInRange :
    heldAngle.SettingsInRange ∧ heldAngle.ZonesInOrder ∧ heldAngle.DwellSound ∧ heldAngle.HingeSound := by
  refine ⟨by unfold State.SettingsInRange; decide +kernel, by unfold State.ZonesInOrder; decide +kernel,
    by unfold State.DwellSound; decide +kernel, ⟨?_, by decide +kernel, by decide +kernel, ?_⟩⟩
  · unfold AngleTrack.Sound; exact ⟨by decide +kernel, by decide +kernel, by decide +kernel⟩
  · intro c h
    cases h
    unfold Capture.Sound CaptureSum.Bounded
    exact ⟨by decide +kernel, by decide +kernel, by decide +kernel, by decide +kernel⟩
theorem witness_StepKeepsTableAndBanks : full.EntriesValid ∧ full.LatestPublished ∧ full.BanksSound := by
  refine ⟨⟨?_, ?_, ?_, ?_⟩, by unfold State.LatestPublished; decide +kernel, ?_⟩
  · unfold View.Valid; decide +kernel
  · intro p h; cases h
  · unfold View.Valid; decide +kernel
  · unfold View.Valid; decide +kernel
  · unfold State.BanksSound Bank.Sound; decide +kernel
theorem witness_StepKeepsRecordsAndStacks :
    composed.RecordsSound ∧ composed.StackSound .a ∧ composed.StackSound .b := by
  refine ⟨by unfold State.RecordsSound; decide +kernel, ?_, ?_⟩ <;>
    (unfold State.StackSound
     refine ⟨by decide +kernel, by decide +kernel, by decide +kernel, by decide +kernel, by decide +kernel, by decide +kernel,
       by decide +kernel, by decide +kernel⟩)
theorem witness_StepKeepsDemandAndPanelsSound :
    (settled .flat 2000).DemandInForce .a ∧ (settled .flat 2000).DemandInForce .b ∧ (settled .flat 2000).ResetHeld ∧
      (settled .flat 2000).PanelsSound := by
  unfold State.DemandInForce State.ResetHeld State.PanelsSound PanelUnit.Sound
  decide +kernel

end Sys2Proof.Tests
end

section
/-! PROOFS. What an angle-producing sample measures (chapter 1, R4 to R6): the pivot arithmetic, the parts of a sample
completion (R9), and O17. -/

namespace Sys2Proof.Machine

/-! ## Pivot arithmetic (R4, R6) -/

theorem signedDelta_bounds (negative : Bool) (zero raw : RawCount) :
    -1024 ≤ signedDelta negative zero raw ∧ signedDelta negative zero raw ≤ 3071 := by
  simp only [signedDelta]
  split <;> omega

theorem signedDelta_congr (negative : Bool) (zero raw : RawCount) :
    (4096 : Int) ∣ signedDelta negative zero raw -
      (if negative then (zero.toNat : Int) - raw.toNat else (raw.toNat : Int) - zero.toNat) := by
  simp only [signedDelta]
  generalize (if negative then (zero.toNat : Int) - raw.toNat else (raw.toNat : Int) - zero.toNat) = turn
  split <;> omega

theorem clampDelta_eq (d : Int) : (clampDelta d : Int) = max 0 (min 2048 d) := by
  unfold clampDelta
  split <;> [skip; split] <;> omega

/-- The angle is the quotient rounded to the nearest tenth, a half up. -/
theorem foldAngle_rounds (cL cR : Nat) :
    4096 * foldAngle cL cR ≤ (cL + cR) * 3600 + 2048 ∧ (cL + cR) * 3600 + 2048 < 4096 * (foldAngle cL cR + 1) := by
  unfold foldAngle
  omega

theorem foldAngle_le {cL cR : Nat} (hL : cL ≤ 2048) (hR : cR ≤ 2048) : foldAngle cL cR ≤ 3600 := by
  unfold foldAngle
  omega

/-! ## One pivot -/

@[simp] theorem PivotState.update_zero (r : Reading) (p : PivotState) : (p.update r).zero = p.zero := by
  cases r <;> rfl

@[simp] theorem PivotState.recordDelta_clamped (d : Int) (p : PivotState) :
    (p.recordDelta d).clamped = decide (d < 0 ∨ 2048 < d) :=
  (Bool.decide_or _ _).symm

/-! ## Skew (R5) -/

@[simp] theorem Hinge.judgeSkew_miss (dL dR : Int) (h : Hinge) : h.judgeSkew false dL dR = h := rfl

theorem Hinge.judgeSkew_beyond {dL dR : Int} {h : Hinge} (beyond : h.skewLimit < (dL - dR).natAbs) :
    h.judgeSkew true dL dR =
      { h with skew := some (dL - dR).natAbs, skewRun := Count.bump h.skewRun, overLimit := Count.bump h.overLimit } :=
  if_pos beyond

theorem Hinge.judgeSkew_within {dL dR : Int} {h : Hinge} (within : (dL - dR).natAbs ≤ h.skewLimit) :
    h.judgeSkew true dL dR = { h with skew := some (dL - dR).natAbs, skewRun := 0 } :=
  if_neg (Nat.not_lt.mpr within)

/-- The judgement of the skew touches the skew, its run and its counter at most. -/
theorem Hinge.judgeSkew_frame (both : Bool) (dL dR : Int) (h : Hinge) :
    ∃ k n o, h.judgeSkew both dL dR = { h with skew := k, skewRun := n, overLimit := o } := by
  cases both with
  | false => exact ⟨_, _, _, rfl⟩
  | true =>
    rcases Nat.lt_or_ge h.skewLimit (dL - dR).natAbs with beyond | within
    · exact ⟨_, _, _, Hinge.judgeSkew_beyond beyond⟩
    · exact ⟨_, _, _, Hinge.judgeSkew_within within⟩

/-! ## The parts of a sample completion (R9) -/

/-- What R4 to R6 measure, of a Hinge Unit. The later parts of a sample completion leave it as it is. -/
structure Measured where
  leftDelta : Option Int
  leftClamped : Bool
  rightDelta : Option Int
  rightClamped : Bool
  instant : Option Nat
  skew : Option Nat
  skewRun : Count
  overLimit : Count

def Hinge.measured (h : Hinge) : Measured :=
  ⟨h.left.delta, h.left.clamped, h.right.delta, h.right.clamped, h.instant, h.skew, h.skewRun, h.overLimit⟩

/-- What the judgement of the skew measures depends on the values measured before and on the skew limit alone. -/
theorem Hinge.judgeSkew_measured_congr {g h : Hinge} (limit : g.skewLimit = h.skewLimit) (eq : g.measured = h.measured)
    (both : Bool) (dL dR : Int) : (g.judgeSkew both dL dR).measured = (h.judgeSkew both dL dR).measured := by
  cases both with
  | false => exact eq
  | true =>
    rcases Nat.lt_or_ge h.skewLimit (dL - dR).natAbs with beyond | within
    · rw [Hinge.judgeSkew_beyond beyond, Hinge.judgeSkew_beyond (limit ▸ beyond)]
      simp_all [Hinge.measured]
    · rw [Hinge.judgeSkew_within within, Hinge.judgeSkew_within (limit ▸ within)]
      simp_all [Hinge.measured]

/-- The zero capture's accumulation touches the capture and its latest result at most. -/
theorem HingeWork.accumulate_unit (sm : Sample) (w : HingeWork) :
    ∃ c r, (w.accumulate sm).unit = { w.unit with capture := c, lastResult := r } := by
  unfold HingeWork.accumulate
  split
  · exact ⟨_, _, rfl⟩
  · split
    · exact ⟨_, _, rfl⟩
    · split <;> exact ⟨_, _, rfl⟩

/-- The angle-state handling touches the angle state, seed pending and the fault-entry counter at most. -/
theorem HingeWork.handleAngle_unit (sm : Sample) (angle : Option Nat) (w : HingeWork) :
    ∃ t p n, (w.handleAngle sm angle).unit = { w.unit with angle := t, seedPending := p, faultEntries := n } := by
  simp only [HingeWork.handleAngle]
  split
  case h_1 => exact ⟨_, _, _, rfl⟩
  case h_2 => exact ⟨_, _, _, rfl⟩
  case h_3 =>
    split
    · exact ⟨_, _, _, rfl⟩
    · split
      · exact ⟨_, _, _, rfl⟩
      · split <;> exact ⟨_, _, _, rfl⟩
  case h_4 =>
    generalize (if w.unit.isClean sm = true then _ + 1 else 0) = cleanCount
    split
    · split <;> exact ⟨_, _, _, rfl⟩
    · exact ⟨_, _, _, rfl⟩

theorem HingeWork.handleAngle_measured (sm : Sample) (angle : Option Nat) (w : HingeWork) :
    (w.handleAngle sm angle).unit.measured = w.unit.measured := by
  obtain ⟨t, p, n, hu⟩ := w.handleAngle_unit sm angle
  rw [hu]
  rfl

/-- The end of a zero capture replaces zeros, and no value measured before. -/
theorem HingeWork.endCapture_measured (w : HingeWork) : w.endCapture.unit.measured = w.unit.measured := by
  unfold HingeWork.endCapture
  split <;> rfl

/-- A Hinge Unit that has recorded two signed deltas and their instantaneous angle, the skew not judged yet (R4, R6). -/
def Hinge.recordDeltas (dL dR : Int) (h : Hinge) : Hinge :=
  { h with
    left := h.left.recordDelta dL, right := h.right.recordDelta dR
    instant := some (foldAngle (clampDelta dL) (clampDelta dR)) }

/-- With a last good raw of both pivots, a measurement records the deltas and the angle, then judges the skew. -/
theorem Hinge.measure_of_lastGood (straps : Straps) (sm : Sample) {h : Hinge} {rawL rawR : RawCount}
    (hL : h.left.lastGood = some rawL) (hR : h.right.lastGood = some rawR) :
    let dL := signedDelta straps.pola h.left.zero rawL
    let dR := signedDelta straps.polb h.right.zero rawR
    (h.measure straps sm).1 = (h.recordDeltas dL dR).judgeSkew (sm.left.isFresh && sm.right.isFresh) dL dR := by
  simp only [Hinge.measure, Hinge.recordDeltas, hL, hR]

/-- A whole sample completion measures from the zeros in force before it: the zero capture's end comes after (R9). -/
theorem Hinge.complete_measured (straps : Straps) {sm : Sample} {h : Hinge} {rawL rawR : RawCount}
    (produces : h.produces sm rawL rawR) :
    let dL := signedDelta straps.pola h.left.zero rawL
    let dR := signedDelta straps.polb h.right.zero rawR
    (h.complete straps sm).unit.measured =
      ((h.recordDeltas dL dR).judgeSkew (sm.left.isFresh && sm.right.isFresh) dL dR).measured := by
  obtain ⟨hL, hR⟩ := produces
  obtain ⟨c, r, accumulated⟩ :=
    HingeWork.accumulate_unit sm ⟨({ h with sample := none }).updatePivots sm, false, false⟩
  simp only [Hinge.complete, HingeWork.endCapture_measured, HingeWork.handleAngle_measured, accumulated]
  rw [Hinge.measure_of_lastGood straps sm hL hR]
  simp only [Hinge.updatePivots, PivotState.update_zero]
  apply Hinge.judgeSkew_measured_congr <;> rfl

/-- The deltas, the clamp indications and the instantaneous angle that a sample completion leaves (R4, R6). -/
theorem Hinge.complete_records (straps : Straps) {sm : Sample} {h : Hinge} {rawL rawR : RawCount}
    (produces : h.produces sm rawL rawR) :
    let h' := (h.complete straps sm).unit
    let dL := signedDelta straps.pola h.left.zero rawL
    let dR := signedDelta straps.polb h.right.zero rawR
    h'.left.delta = some dL ∧ h'.left.clamped = decide (dL < 0 ∨ 2048 < dL) ∧
      h'.right.delta = some dR ∧ h'.right.clamped = decide (dR < 0 ∨ 2048 < dR) ∧
      h'.instant = some (foldAngle (clampDelta dL) (clampDelta dR)) := by
  intro h' dL dR
  have measured : h'.measured =
      ((h.recordDeltas dL dR).judgeSkew (sm.left.isFresh && sm.right.isFresh) dL dR).measured :=
    h.complete_measured straps produces
  obtain ⟨_, _, _, judged⟩ := (h.recordDeltas dL dR).judgeSkew_frame (sm.left.isFresh && sm.right.isFresh) dL dR
  rw [judged] at measured
  exact ⟨congrArg Measured.leftDelta measured,
    (congrArg Measured.leftClamped measured).trans (h.left.recordDelta_clamped dL),
    congrArg Measured.rightDelta measured,
    (congrArg Measured.rightClamped measured).trans (h.right.recordDelta_clamped dR),
    congrArg Measured.instant measured⟩

/-- With both pivots fresh, the skew is judged against the limit in force (R5). -/
theorem Hinge.complete_skew_of_fresh (straps : Straps) {sm : Sample} {h : Hinge} {rawL rawR : RawCount}
    (produces : h.produces sm rawL rawR) (freshL : sm.left.isFresh = true) (freshR : sm.right.isFresh = true) :
    let h' := (h.complete straps sm).unit
    let dL := signedDelta straps.pola h.left.zero rawL
    let dR := signedDelta straps.polb h.right.zero rawR
    let skew := (dL - dR).natAbs
    h'.skew = some skew ∧
      (h.skewLimit < skew → h'.skewRun = Count.bump h.skewRun ∧ h'.overLimit = Count.bump h.overLimit) ∧
      (skew ≤ h.skewLimit → h'.skewRun = 0 ∧ h'.overLimit = h.overLimit) := by
  intro h' dL dR skew
  have measured : h'.measured = ((h.recordDeltas dL dR).judgeSkew true dL dR).measured := by
    simpa only [freshL, freshR, Bool.and_self] using h.complete_measured straps produces
  rcases Nat.lt_or_ge h.skewLimit skew with beyond | within
  · rw [Hinge.judgeSkew_beyond (h := h.recordDeltas dL dR) beyond] at measured
    exact ⟨congrArg Measured.skew measured,
      fun _ => ⟨congrArg Measured.skewRun measured, congrArg Measured.overLimit measured⟩,
      fun within => absurd beyond (Nat.not_lt.mpr within)⟩
  · rw [Hinge.judgeSkew_within (h := h.recordDeltas dL dR) within] at measured
    exact ⟨congrArg Measured.skew measured,
      fun beyond => absurd beyond (Nat.not_lt.mpr within),
      fun _ => ⟨congrArg Measured.skewRun measured, congrArg Measured.overLimit measured⟩⟩

/-- With a miss, no skew is computed (R5). -/
theorem Hinge.complete_skew_of_miss (straps : Straps) {sm : Sample} {h : Hinge} {rawL rawR : RawCount}
    (produces : h.produces sm rawL rawR) (miss : ¬ (sm.left.isFresh = true ∧ sm.right.isFresh = true)) :
    let h' := (h.complete straps sm).unit
    h'.skew = h.skew ∧ h'.skewRun = h.skewRun ∧ h'.overLimit = h.overLimit := by
  intro h'
  have notBoth : (sm.left.isFresh && sm.right.isFresh) = false := by simpa using miss
  have measured := h.complete_measured straps produces
  simp only [notBoth, Hinge.judgeSkew_miss] at measured
  exact ⟨congrArg Measured.skew measured, congrArg Measured.skewRun measured, congrArg Measured.overLimit measured⟩

end Sys2Proof.Machine

open Sys2Proof Sys2Proof.Machine

/-- Settles O17: the arithmetic of R4 and R6, then what a whole sample completion records, the skew apart by whether both
pivots are fresh (R5). -/
theorem sampleMeasuresDeltasSkewAndAngle : Obligations.SampleMeasuresDeltasSkewAndAngle := by
  unfold Obligations.SampleMeasuresDeltasSkewAndAngle
  refine ⟨fun negative zero raw => ?_, clampDelta_eq, fun cL cR hL hR => ?_, fun straps sm h rawL rawR produces => ?_⟩
  · obtain ⟨lo, hi⟩ := signedDelta_bounds negative zero raw
    exact ⟨lo, hi, signedDelta_congr negative zero raw⟩
  · obtain ⟨lo, hi⟩ := foldAngle_rounds cL cR
    exact ⟨lo, hi, foldAngle_le hL hR⟩
  · obtain ⟨deltaL, clampedL, deltaR, clampedR, instant⟩ := h.complete_records straps produces
    exact ⟨deltaL, clampedL, deltaR, clampedR, instant, h.complete_skew_of_fresh straps produces,
      h.complete_skew_of_miss straps produces⟩

end

section
/-! PROOFS. Retiring and finding the entries of DRAFT (chapter 3, R60, R61, R64): the handle a byte names, the handles that
carry a tag, the three commands, and O30. -/

namespace Sys2Proof.Machine

/-! ## The handle a byte names (R180) -/

theorem handleOfByte_of_gt {b : Byte} (above : 31 < b.toNat) : handleOfByte b = none :=
  dif_neg (by omega)

theorem handleOfByte_of_eq {b : Byte} {h : Handle} (names : b.toNat = h.val) : handleOfByte b = some h := by
  have inRange : b.toNat < 32 := names ▸ h.isLt
  exact (dif_pos inRange).trans (congrArg some (Fin.ext names))

/-! ## The handles that carry a tag (R61, R64) -/

/-- The handles come in ascending order because they are taken from all the handles in that order. -/
theorem View.tagged_ascending (tag : Half) (v : View) : (v.tagged tag).Pairwise (· < ·) :=
  (List.pairwise_lt_finRange 32).filter _

theorem View.mem_tagged {tag : Half} {v : View} {h : Handle} :
    h ∈ v.tagged tag ↔ ∃ e, v[h] = some e ∧ e.tag = tag := by
  simp only [View.tagged, handles, List.mem_filter, List.mem_finRange, true_and]
  cases v[h] <;> simp

/-- What is removed is what is found: the handles that `View.tagged` lists. -/
theorem View.withoutTag_getElem (tag : Half) (v : View) (h : Handle) :
    (v.withoutTag tag)[h] = if h ∈ v.tagged tag then none else v[h] := by
  simp only [View.mem_tagged, View.withoutTag, Fin.getElem_fin, Vector.getElem_ofFn]
  cases v[h.val] <;> simp

/-- The members of a list of handles are one byte each, after the count (R179). -/
theorem counted_handleByte (l : List Handle) :
    counted handleByte l = BitVec.ofNat 8 l.length :: l.map fun h => BitVec.ofNat 8 h.val :=
  congrArg (BitVec.ofNat 8 l.length :: ·) (List.flatMap_pure_eq_map _ l)

/-! ## The dispatch of the three commands -/

theorem exec_entryRetire (b : Byte) (s : State) : exec (.entryRetire b) s = execEntryRetire b s := rfl
theorem exec_tagRetire (tag : Half) (s : State) : exec (.tagRetire tag) s = execTagRetire tag s := rfl
theorem exec_tagFind (tag : Half) (s : State) : exec (.tagFind tag) s = execTagFind tag s := rfl

/-! ## The commands with the port open -/

theorem State.setDraft_eq_withDraft (v : View) (s : State) : s.setDraft v = s.withDraft v := rfl

section
variable {s : State} (opened : s.portOpen = true)
include opened

theorem execEntryRetire_range {b : Byte} (above : 31 < b.toNat) :
    execEntryRetire b s = .next (s.hold ⟨.range, []⟩) := by
  rw [execEntryRetire, State.onCommand_open opened, handleOfByte_of_gt above]
  rfl

theorem execEntryRetire_absent {b : Byte} {h : Handle} (names : b.toNat = h.val) (absent : s.table.draft[h] = none) :
    execEntryRetire b s = .next (s.hold ⟨.absent, []⟩) := by
  have notHeld : ¬ s.table.draft.holds h = true := by simp [View.holds, absent]
  simp only [execEntryRetire, State.onCommand_open opened, handleOfByte_of_eq names, if_neg notHeld,
    refuse_fst, refuse_snd]

theorem execEntryRetire_done {b : Byte} {h : Handle} (names : b.toNat = h.val)
    (held : s.table.draft[h].isSome = true) :
    execEntryRetire b s = .next ((s.withDraft (s.table.draft.set h none)).hold ⟨.done, []⟩) := by
  have holds : s.table.draft.holds h = true := held
  simp only [execEntryRetire, State.onCommand_open opened, handleOfByte_of_eq names, if_pos holds, done_fst, done_snd,
    State.setDraft_eq_withDraft]

theorem execTagRetire_done (tag : Half) :
    execTagRetire tag s = .next ((s.withDraft (s.table.draft.withoutTag tag)).hold
      ⟨.done, [BitVec.ofNat 8 (s.table.draft.tagged tag).length]⟩) :=
  State.onCommand_open opened _

theorem execTagFind_done (tag : Half) :
    execTagFind tag s = .next (s.hold ⟨.done, BitVec.ofNat 8 (s.table.draft.tagged tag).length ::
      (s.table.draft.tagged tag).map fun h => BitVec.ofNat 8 h.val⟩) := by
  rw [execTagFind, State.onCommand_open opened, counted_handleByte]
  rfl

end

end Sys2Proof.Machine

open Sys2Proof Sys2Proof.Machine

/-- Settles O30: ENTRY RETIRE by what its byte names and whether DRAFT holds it; the list found for a tag is `View.tagged`
of DRAFT, which TAG FIND reports and TAG RETIRE removes. -/
theorem retireAndFindWorkOnDraft : Obligations.RetireAndFindWorkOnDraft := by
  unfold Obligations.RetireAndFindWorkOnDraft
  intro s opened
  simp only [exec_entryRetire, exec_tagRetire, exec_tagFind]
  refine ⟨fun b => ?_, fun tag => ?_⟩
  · exact ⟨execEntryRetire_range opened, fun h names =>
      ⟨execEntryRetire_absent opened names, execEntryRetire_done opened names⟩⟩
  · exact ⟨s.table.draft.tagged tag, s.table.draft.tagged_ascending tag, fun _ => View.mem_tagged,
      execTagFind_done opened tag,
      s.table.draft.withoutTag tag, s.table.draft.withoutTag_getElem tag, execTagRetire_done opened tag⟩

end

section
/-! PROOFS. Resolution of a placement entry (chapter 5, R90 to R101): its kind by the six tests (O36), and what its fit shows,
on its panel and in its source (O37). -/

namespace Sys2Proof.Machine

/-! ## The six tests of R91 -/

/-- The span part of test 3: the profile allows span and both panels are live. -/
def Scene.canSpan (sc : Scene) : Bool := sc.spanAllowed && sc.live .a && sc.live .b

/-- Tests 4 to 6: the home panel when it is live, else the other panel when it is. -/
def Scene.choosePanel (sc : Scene) (e : Entry) : Choice :=
  if sc.live e.home then .home
  else if sc.live (otherPanel e.home) then .guest
  else .none .noLivePanel

theorem Scene.live_iff {sc : Scene} {x : Panel} : sc.live x = true ↔ sc.stateOf x = .live :=
  decide_eq_true_iff

theorem Scene.spanAllowed_iff {sc : Scene} :
    sc.spanAllowed = true ↔ ∃ q, sc.profile = some q ∧ q.spanAllowed = true := by
  unfold Scene.spanAllowed
  cases sc.profile <;> simp

theorem Scene.canSpan_iff {sc : Scene} :
    sc.canSpan = true ↔
      (∃ q, sc.profile = some q ∧ q.spanAllowed = true) ∧ sc.stateOf .a = .live ∧ sc.stateOf .b = .live := by
  simp only [Scene.canSpan, Bool.and_eq_true, Scene.spanAllowed_iff, Scene.live_iff, and_assoc]

section
variable {sc : Scene} {e : Entry}

theorem Scene.choose_unsettled (unsettled : sc.posture = none) : sc.choose e = .none .unsettled := by
  simp only [Scene.choose, unsettled]

theorem Scene.choose_notVisible {p : Posture} (settled : sc.posture = some p) (hidden : e.visibleIn p = false) :
    sc.choose e = .none .notVisible := by
  simp [Scene.choose, settled, hidden]

/-- For a visible entry of a settled posture, test 3 and then the tests of the panels alone. -/
theorem Scene.choose_visible {p : Posture} (settled : sc.posture = some p) (visible : e.visibleIn p = true) :
    sc.choose e = match e.spanAt with
      | some o => if sc.canSpan then .span o else sc.choosePanel e
      | none => sc.choosePanel e := by
  simp only [Scene.choose, settled, visible]
  cases e.spanAt <;> rfl

theorem Scene.choose_span {p : Posture} {o : Point} (settled : sc.posture = some p) (visible : e.visibleIn p = true)
    (spanAt : e.spanAt = some o) (spans : sc.canSpan = true) : sc.choose e = .span o := by
  simp only [Scene.choose_visible settled visible, spanAt, spans, if_true]

theorem Scene.choose_panel {p : Posture} (settled : sc.posture = some p) (visible : e.visibleIn p = true)
    (unspanned : e.spanAt = none ∨ ¬ sc.canSpan = true) : sc.choose e = sc.choosePanel e := by
  rw [Scene.choose_visible settled visible]
  cases spanAt : e.spanAt with
  | none => rfl
  | some o => exact if_neg (unspanned.resolve_left (by simp [spanAt]))

/-- The tests choose a span only at the entry's own span origin. -/
theorem Scene.spanAt_of_choose_span {o : Point} (chosen : sc.choose e = .span o) : e.spanAt = some o := by
  have notPanel : sc.choosePanel e ≠ .span o := by
    unfold Scene.choosePanel
    split <;> [skip; split] <;> simp
  cases settled : sc.posture with
  | none => simp [Scene.choose_unsettled settled] at chosen
  | some p =>
    cases visible : e.visibleIn p with
    | false => simp [Scene.choose_notVisible settled visible] at chosen
    | true =>
      rw [Scene.choose_visible settled visible] at chosen
      cases spanAt : e.spanAt with
      | none => exact absurd (by simpa only [spanAt] using chosen) notPanel
      | some o' =>
        simp only [spanAt] at chosen
        split at chosen
        · exact congrArg some (Choice.span.inj chosen)
        · exact absurd chosen notPanel

end

/-! ## Origins (R92, R93) -/

/-- The two cases of R93 are one: the room left over, halved. -/
theorem centred_eq (room extent : Nat) : centred room extent = (room - extent) / 2 := by
  unfold centred
  split
  · rfl
  · omega

theorem guestOrigin_of_some {e : Entry} {o : Point} (given : e.guestAt = some o) : guestOrigin e = ⟨.guest, o⟩ := by
  simp only [guestOrigin, given]

theorem guestOrigin_of_none {e : Entry} (absent : e.guestAt = none) :
    guestOrigin e = ⟨.centred, ⟨(1200 - e.source.w) / 2, (1680 - e.source.h) / 2⟩⟩ := by
  simp only [guestOrigin, absent, centredOrigin, centred_eq]

theorem panelTarget_width (x : Panel) : (panelTarget x).width = 1200 := by
  cases x <;> rfl

theorem Target.le_width (t : Target) : 1200 ≤ t.width := by
  cases t <;> decide

/-- The bounds of R51 that a placement rests on. -/
theorem Entry.valid_bounds {e : Entry} (valid : e.valid = true) :
    (1 ≤ e.source.w ∧ e.source.w ≤ 2400 ∧ 1 ≤ e.source.h ∧ e.source.h ≤ 1680) ∧
      (e.homeAt.x < 1200 ∧ e.homeAt.y < 1680) ∧
      (∀ p, e.guestAt = some p → p.x < 1200 ∧ p.y < 1680) ∧
      (∀ p, e.spanAt = some p → p.x < 2400 ∧ p.y < 1680) := by
  simp only [Entry.valid, Bool.and_eq_true, decide_eq_true_eq, and_assoc] at valid
  obtain ⟨-, -, w₁, w₂, h₁, h₂, -, -, homeX, homeY, guest, span⟩ := valid
  refine ⟨⟨w₁, w₂, h₁, h₂⟩, ⟨homeX, homeY⟩, fun p at_ => ?_, fun p at_ => ?_⟩
  · simpa [at_] using guest
  · simpa [at_] using span

/-- An origin lies inside a target. -/
def Target.Holds (t : Target) (o : Point) : Prop := o.x < t.width ∧ o.y < 1680

theorem panelTarget_holds_homeAt {e : Entry} (valid : e.valid = true) : (panelTarget e.home).Holds e.homeAt := by
  rw [Target.Holds, panelTarget_width]
  exact (Entry.valid_bounds valid).2.1

theorem panelTarget_holds_guestOrigin {e : Entry} (valid : e.valid = true) (x : Panel) :
    (panelTarget x).Holds (guestOrigin e).at_ := by
  obtain ⟨-, -, guest, -⟩ := Entry.valid_bounds valid
  rw [Target.Holds, panelTarget_width]
  cases given : e.guestAt with
  | some o => simpa only [guestOrigin_of_some given] using guest o given
  | none =>
    simp only [guestOrigin_of_none given]
    omega

theorem spanTarget_holds_spanAt {e : Entry} {o : Point} (valid : e.valid = true) (given : e.spanAt = some o) :
    Target.span.Holds o := by
  obtain ⟨-, -, -, span⟩ := Entry.valid_bounds valid
  exact span o given

/-! ## Fit (R94 to R97) -/

theorem fitsTarget_iff {t : Target} {o : Point} {e : Entry} :
    fitsTarget t o e = true ↔ o.x + e.source.w ≤ t.width ∧ o.y + e.source.h ≤ 1680 := by
  simp only [fitsTarget, Bool.and_eq_true, decide_eq_true_eq]
  exact Iff.rfl

/-- The requested destination, taken pixel for pixel (R94). -/
def requested (o : Point) (e : Entry) : Shown := ⟨⟨⟨o.x, o.y, e.source.w, e.source.h⟩, sourceStart e⟩, 1⟩

section
variable {t : Target} {o : Point} {e : Entry}

theorem applyFit_fitting (fits : fitsTarget t o e = true) : applyFit t o e = (.none, some (requested o e)) := by
  rw [applyFit, if_pos fits]
  rfl

theorem applyFit_crop (unfit : ¬ fitsTarget t o e = true) (mode : e.fit = .crop) :
    applyFit t o e = (.crop, some (cropped t o e)) := by
  rw [applyFit, if_neg unfit, mode]

theorem applyFit_halve (unfit : ¬ fitsTarget t o e = true) (mode : e.fit = .halve) :
    applyFit t o e = (.halve, some (halved t e)) := by
  rw [applyFit, if_neg unfit, mode]

theorem applyFit_hide (unfit : ¬ fitsTarget t o e = true) (mode : e.fit = .hide) :
    applyFit t o e = (.hide, none) := by
  rw [applyFit, if_neg unfit, mode]

theorem applyFit_ne_none (unfit : ¬ fitsTarget t o e = true) : (applyFit t o e).1 ≠ .none := by
  rw [applyFit, if_neg unfit]
  cases e.fit <;> exact FitApplied.noConfusion

/-- Half of a valid source lies in every target whole, so that nothing of it is cut away (R96). -/
theorem halved_eq (valid : e.valid = true) (t : Target) :
    halved t e = ⟨⟨⟨(t.width - (e.source.w + 1) / 2) / 2, (1680 - (e.source.h + 1) / 2) / 2,
      (e.source.w + 1) / 2, (e.source.h + 1) / 2⟩, sourceStart e⟩, 2⟩ := by
  obtain ⟨⟨_, w₂, _, h₂⟩, -⟩ := Entry.valid_bounds valid
  have wide := t.le_width
  have cutW : min ((e.source.w + 1) / 2) (t.width - (t.width - (e.source.w + 1) / 2) / 2) = (e.source.w + 1) / 2 := by
    omega
  have cutH : min ((e.source.h + 1) / 2) (1680 - (1680 - (e.source.h + 1) / 2) / 2) = (e.source.h + 1) / 2 := by
    omega
  simp only [halved, targetHeight, centred_eq, cutW, cutH]

end

/-! ## What is shown lies on its target and in its source (R94 to R96) -/

/-- `Part.Within` on an area of any width: a panel is 1200 wide, the span target 2400. -/
def Part.WithinWidth (width : Nat) (p : Part) (step : Nat) (e : Entry) : Prop :=
  1 ≤ p.rect.w ∧ 1 ≤ p.rect.h ∧ p.rect.x + p.rect.w ≤ width ∧ p.rect.y + p.rect.h ≤ 1680 ∧
  e.source.x ≤ p.start.x ∧ p.start.x + step * (p.rect.w - 1) < e.source.x + e.source.w ∧
  e.source.y ≤ p.start.y ∧ p.start.y + step * (p.rect.h - 1) < e.source.y + e.source.h

theorem Part.within_iff {p : Part} {step : Nat} {e : Entry} : p.Within step e ↔ p.WithinWidth 1200 step e := Iff.rfl

section
variable {t : Target} {o : Point} {e : Entry} (valid : e.valid = true)
include valid

theorem requested_within (fits : fitsTarget t o e = true) :
    (requested o e).part.WithinWidth t.width (requested o e).step e := by
  obtain ⟨⟨_, _, _, _⟩, -⟩ := Entry.valid_bounds valid
  obtain ⟨_, _⟩ := fitsTarget_iff.mp fits
  simp only [Part.WithinWidth, requested, sourceStart]
  omega

theorem cropped_within (inside : t.Holds o) : (cropped t o e).part.WithinWidth t.width (cropped t o e).step e := by
  obtain ⟨⟨_, _, _, _⟩, -⟩ := Entry.valid_bounds valid
  obtain ⟨_, _⟩ := inside
  simp only [Part.WithinWidth, cropped, sourceStart, targetHeight]
  omega

theorem halved_within : (halved t e).part.WithinWidth t.width (halved t e).step e := by
  obtain ⟨⟨_, _, _, _⟩, -⟩ := Entry.valid_bounds valid
  have wide := t.le_width
  rw [halved_eq valid]
  simp only [Part.WithinWidth, sourceStart]
  omega

theorem applyFit_within (inside : t.Holds o) {sh : Shown} (shown : (applyFit t o e).2 = some sh) :
    sh.part.WithinWidth t.width sh.step e := by
  by_cases fits : fitsTarget t o e = true
  · rw [applyFit_fitting fits] at shown
    obtain rfl : requested o e = sh := Option.some.inj shown
    exact requested_within valid fits
  · cases mode : e.fit with
    | crop =>
      rw [applyFit_crop fits mode] at shown
      obtain rfl : cropped t o e = sh := Option.some.inj shown
      exact cropped_within valid inside
    | halve =>
      rw [applyFit_halve fits mode] at shown
      obtain rfl : halved t e = sh := Option.some.inj shown
      exact halved_within valid
    | hide => simp [applyFit_hide fits mode] at shown

end

/-! ## The parts of what is shown (R99) -/

section
variable {sh : Shown} {p : Part} {e : Entry}

/-- Cut at the fold, what stands on the left keeps its start and loses columns at its right. -/
theorem spanPartA_within (within : sh.part.WithinWidth 2400 sh.step e) (isPart : spanPartA sh = some p) :
    p.Within sh.step e := by
  obtain ⟨w, h, right, bottom, startX, endX, startY, endY⟩ := within
  simp only [spanPartA, Option.ite_none_right_eq_some, Option.some.injEq] at isPart
  obtain ⟨left, rfl⟩ := isPart
  have fewer : sh.step * (min (sh.part.rect.x + sh.part.rect.w) 1200 - sh.part.rect.x - 1) ≤
      sh.step * (sh.part.rect.w - 1) := Nat.mul_le_mul_left _ (by omega)
  simp only [Part.Within]
  omega

/-- Cut at the fold, what stands on the right starts later in the source by the columns on the left, and so ends
with it. -/
theorem spanPartB_within (within : sh.part.WithinWidth 2400 sh.step e) (isPart : spanPartB sh = some p) :
    p.Within sh.step e := by
  obtain ⟨w, h, right, bottom, startX, endX, startY, endY⟩ := within
  simp only [spanPartB, Option.ite_none_right_eq_some, Option.some.injEq] at isPart
  obtain ⟨beyond, rfl⟩ := isPart
  have sameEnd : sh.step * (max sh.part.rect.x 1200 - sh.part.rect.x) +
      sh.step * (sh.part.rect.x + sh.part.rect.w - max sh.part.rect.x 1200 - 1) = sh.step * (sh.part.rect.w - 1) := by
    rw [← Nat.mul_add]
    congr 1
    omega
  simp only [Part.Within]
  omega

theorem partOn_within {t : Target} {x : Panel} (within : sh.part.WithinWidth t.width sh.step e)
    (isPart : partOn x t sh = some p) : p.Within sh.step e := by
  cases t with
  | span =>
    cases x with
    | a => exact spanPartA_within within isPart
    | b => exact spanPartB_within within isPart
  | panelA =>
    cases x with
    | a => exact Option.some.inj isPart ▸ Part.within_iff.mpr within
    | b => simp [partOn] at isPart
  | panelB =>
    cases x with
    | a => simp [partOn] at isPart
    | b => exact Option.some.inj isPart ▸ Part.within_iff.mpr within

end

/-! ## The record of an entry (R91 to R101, R110) -/

/-- The record of an entry that resolves to NONE before its fit is judged. -/
def unplacedRecord (gen : Gen) (reason : Reason) : Record :=
  { Record.vacant gen with inShown := true, reason := some reason }

section
variable {sc : Scene} {e : Entry}

theorem Scene.resolve_none {reason : Reason} (chosen : sc.choose e = .none reason) :
    sc.resolve e = unplacedRecord sc.shown.gen reason := by
  simp only [Scene.resolve, chosen, unplacedRecord]

theorem Scene.resolve_span {o : Point} (chosen : sc.choose e = .span o) :
    sc.resolve e = placedRecord sc.shown.gen .span .span ⟨.span, o⟩ e := by
  simp only [Scene.resolve, chosen]

theorem Scene.resolve_home (chosen : sc.choose e = .home) :
    sc.resolve e = placedRecord sc.shown.gen .home (panelTarget e.home) ⟨.home, e.homeAt⟩ e := by
  simp only [Scene.resolve, chosen]

theorem Scene.resolve_guest (chosen : sc.choose e = .guest) :
    sc.resolve e = placedRecord sc.shown.gen .guest (panelTarget (otherPanel e.home)) (guestOrigin e) e := by
  simp only [Scene.resolve, chosen]

/-- An entry is not placed, or placed at an origin that lies inside its target when the entry is valid (R92). -/
theorem Scene.resolve_cases (sc : Scene) (e : Entry) :
    (∃ reason, sc.resolve e = unplacedRecord sc.shown.gen reason) ∨
      ∃ kind t o, sc.resolve e = placedRecord sc.shown.gen kind t o e ∧ (e.valid = true → t.Holds o.at_) := by
  cases chosen : sc.choose e with
  | none reason => exact .inl ⟨reason, Scene.resolve_none chosen⟩
  | span o =>
    exact .inr ⟨_, _, _, Scene.resolve_span chosen,
      fun valid => spanTarget_holds_spanAt valid (Scene.spanAt_of_choose_span chosen)⟩
  | home => exact .inr ⟨_, _, _, Scene.resolve_home chosen, panelTarget_holds_homeAt⟩
  | guest =>
    exact .inr ⟨_, _, _, Scene.resolve_guest chosen, fun valid => panelTarget_holds_guestOrigin valid _⟩

theorem placedRecord_hidden {t : Target} {o : OriginTaken} (hides : (applyFit t o.at_ e).1 = .hide) (gen : Gen)
    (kind : Kind) :
    let r := placedRecord gen kind t o e
    r.kind = .none ∧ r.reason = some .hiddenByFit :=
  ⟨if_pos hides, if_pos hides⟩

/-- A record with a target is of its kind, unless its fit hides it (R97). -/
theorem placedRecord_kind (gen : Gen) (kind : Kind) (t : Target) (o : OriginTaken) (e : Entry) :
    let r := placedRecord gen kind t o e
    (r.kind = kind ∧ r.reason = none) ∨ (r.fit = some .hide ∧ r.kind = .none ∧ r.reason = some .hiddenByFit) := by
  by_cases hides : (applyFit t o.at_ e).1 = .hide
  · exact .inr ⟨congrArg some hides, placedRecord_hidden hides gen kind⟩
  · exact .inl ⟨if_neg hides, if_neg hides⟩

/-- What the fit decides of a record: the fit applied, what is shown, and whether it is provisional (R101). -/
theorem placedRecord_fit {t : Target} {o : OriginTaken} {f : FitApplied} {shown : Option Shown}
    (fit : applyFit t o.at_ e = (f, shown)) (gen : Gen) (kind : Kind) :
    let r := placedRecord gen kind t o e
    r.fit = some f ∧ r.provisional = decide (f ≠ .none) ∧ r.shown = shown := by
  simp only [placedRecord, fit, true_and]

theorem placedRecord_part {gen : Gen} {kind : Kind} {t : Target} {o : OriginTaken} {x : Panel} {p : Part}
    (isPart : (placedRecord gen kind t o e).part x = some p) :
    ∃ sh, (applyFit t o.at_ e).2 = some sh ∧ partOn x t sh = some p := by
  cases x <;> exact Option.bind_eq_some_iff.mp isPart

end

end Sys2Proof.Machine

open Sys2Proof Sys2Proof.Machine

/-- Settles O36: each test of R91 gives the choice, and the choice the record with its target and origin. -/
theorem placementKindByTheSixTests : Obligations.PlacementKindByTheSixTests := by
  unfold Obligations.PlacementKindByTheSixTests
  intro sc e r isNone isKind
  have unplaced : ∀ reason, sc.choose e = .none reason → isNone reason := fun reason chosen => by
    have record : r = unplacedRecord sc.shown.gen reason := Scene.resolve_none chosen
    simp only [isNone, record]
    exact ⟨rfl, rfl, rfl, rfl⟩
  have placed : ∀ kind t o, r = placedRecord sc.shown.gen kind t o e →
      isKind kind ∧ r.origin = some o ∧ r.target = some t := fun kind t o record => by
    simp only [isKind, record]
    exact ⟨placedRecord_kind _ kind t o e, rfl, rfl⟩
  refine ⟨fun unsettled => unplaced _ (Scene.choose_unsettled unsettled),
    fun p settled hidden => unplaced _ (Scene.choose_notVisible settled hidden),
    fun p settled visible => ⟨fun o spanAt spans => ?_, fun unspanned => ?_⟩⟩
  · exact placed _ _ _ (Scene.resolve_span (Scene.choose_span settled visible spanAt (Scene.canSpan_iff.mpr spans)))
  · have chosen : sc.choose e = sc.choosePanel e :=
      Scene.choose_panel settled visible (unspanned.imp_right (mt Scene.canSpan_iff.mp))
    refine ⟨fun home => ?_, fun notHome guest => ?_, fun notHome notGuest => ?_⟩
    · exact placed _ _ _ (Scene.resolve_home (chosen.trans (if_pos (Scene.live_iff.mpr home))))
    · obtain ⟨kind, origin, target⟩ := placed _ _ _ (Scene.resolve_guest (chosen.trans
        ((if_neg (mt Scene.live_iff.mp notHome)).trans (if_pos (Scene.live_iff.mpr guest)))))
      exact ⟨kind, target, fun o given => origin.trans (congrArg some (guestOrigin_of_some given)),
        fun absent => origin.trans (congrArg some (guestOrigin_of_none absent))⟩
    · exact unplaced _ (chosen.trans
        ((if_neg (mt Scene.live_iff.mp notHome)).trans (if_neg (mt Scene.live_iff.mp notGuest))))

/-- Settles O37: a record without a target shows nothing; with one, its parts come from what the fit shows, which lies on the
target and in the source, and the fit goes by whether the destination lies inside the target. -/
theorem placementsStayOnPanelAndInSource : Obligations.PlacementsStayOnPanelAndInSource := by
  unfold Obligations.PlacementsStayOnPanelAndInSource
  intro sc e valid r
  rcases sc.resolve_cases e with ⟨reason, record⟩ | ⟨kind, t, o, record, inside⟩
  · have record : r = unplacedRecord sc.shown.gen reason := record
    rw [record]
    refine ⟨fun x p isPart => ?_, fun t o target => ?_, fun _ => ⟨rfl, rfl, rfl, rfl, rfl⟩⟩
    · cases x <;> cases isPart
    · cases target
  · have record : r = placedRecord sc.shown.gen kind t o e := record
    rw [record]
    refine ⟨fun x p isPart => ?_, fun t' o' target origin => ?_, fun target => by cases target⟩
    · obtain ⟨sh, shown, onPanel⟩ := placedRecord_part isPart
      exact ⟨sh, shown, partOn_within (applyFit_within valid (inside valid) shown) onPanel⟩
    · obtain rfl : t = t' := Option.some.inj target
      obtain rfl : o = o' := Option.some.inj origin
      refine ⟨fun fits => placedRecord_fit (applyFit_fitting (fitsTarget_iff.mpr fits)) _ kind, fun beyond => ?_⟩
      have unfit : ¬ fitsTarget t o.at_ e = true := mt fitsTarget_iff.mp beyond
      refine ⟨decide_eq_true (applyFit_ne_none unfit), fun mode => ?_, fun mode => ?_, fun mode => ?_⟩
      · obtain ⟨fit, -, shown⟩ := placedRecord_fit (applyFit_crop unfit mode) sc.shown.gen kind
        exact ⟨fit, shown⟩
      · obtain ⟨fit, -, shown⟩ := placedRecord_fit (applyFit_halve unfit mode) sc.shown.gen kind
        exact ⟨fit, shown.trans (congrArg some (halved_eq valid t))⟩
      · obtain ⟨fit, -, shown⟩ := placedRecord_fit (applyFit_hide unfit mode) sc.shown.gen kind
        have hides : (applyFit t o.at_ e).1 = .hide := congrArg Prod.fst (applyFit_hide unfit mode)
        exact ⟨fit, shown, placedRecord_hidden hides sc.shown.gen kind⟩

end

section
/-! PROOFS. The notification enables and flags (chapter 9, R185 to R187): which masks are taken, what NOTIFY ENABLE and
NOTIFY CLEAR leave flag by flag, when ALERT is asserted, and O9. -/

namespace Sys2Proof.Machine

/-! ## Flag sets as arguments (R185, R186) -/

theorem flagSet_of_ge {mask : Half} (above : 1024 ≤ mask.toNat) : flagSet mask = none :=
  if_neg (Nat.not_lt.mpr above)

theorem flagSet_of_lt {mask : Half} (within : mask.toNat < 1024) : flagSet mask = some (mask.setWidth 10) :=
  if_pos within

/-! ## Flag by flag -/

theorem getLsbD_enablesAfter {i : Nat} (isFlag : i < 10) (enables value mask : BitVec 10) :
    (enablesAfter enables value mask).getLsbD i =
      if mask.getLsbD i then value.getLsbD i else enables.getLsbD i := by
  simp only [enablesAfter, BitVec.getLsbD_or, BitVec.getLsbD_and, BitVec.getLsbD_not, isFlag, decide_true, Bool.true_and]
  cases mask.getLsbD i <;> simp

theorem getLsbD_flagsAfterClear {i : Nat} (isFlag : i < 10) (flags mask : BitVec 10) :
    (flagsAfterClear flags mask).getLsbD i = (flags.getLsbD i && !mask.getLsbD i) := by
  simp only [flagsAfterClear, BitVec.getLsbD_and, BitVec.getLsbD_not, isFlag, decide_true, Bool.true_and]

/-- The ten flags of a two-byte argument are its low ten bits. -/
theorem getLsbD_setWidth_flag {i : Nat} (isFlag : i < 10) (m : Half) : (m.setWidth 10).getLsbD i = m.getLsbD i := by
  simp only [BitVec.getLsbD_setWidth, isFlag, decide_true, Bool.true_and]

/-- One flag both set and enabled asserts ALERT: a released ALERT leaves no flag in both sets (R187). -/
theorem Port.alert_of_flag {p : Port} {i : Nat} (set : p.flags.getLsbD i = true) (enabled : p.enables.getLsbD i = true) :
    p.alert = true := by
  refine decide_eq_true fun released => ?_
  have both : (p.flags &&& p.enables).getLsbD i = true := by rw [BitVec.getLsbD_and, set, enabled, Bool.and_self]
  rw [released] at both
  exact Bool.false_ne_true (BitVec.getLsbD_zero.symm.trans both)

/-! ## The two commands with the port open -/

theorem exec_notifyEnable (value mask : Half) (s : State) :
    exec (.notifyEnable value mask) s = execNotifyEnable value mask s := rfl
theorem exec_notifyClear (mask : Half) (s : State) : exec (.notifyClear mask) s = execNotifyClear mask s := rfl

section
variable {s : State} {mask : Half} (opened : s.portOpen = true)
include opened

theorem execNotifyEnable_range (above : 1024 ≤ mask.toNat) (value : Half) :
    execNotifyEnable value mask s = .next (s.hold ⟨.range, []⟩) := by
  simp only [execNotifyEnable, State.onCommand_open opened, flagSet_of_ge above, refuse_fst, refuse_snd]

theorem execNotifyClear_range (above : 1024 ≤ mask.toNat) :
    execNotifyClear mask s = .next (s.hold ⟨.range, []⟩) := by
  simp only [execNotifyClear, State.onCommand_open opened, flagSet_of_ge above, refuse_fst, refuse_snd]

theorem execNotifyEnable_done (within : mask.toNat < 1024) (value : Half) :
    let enables := enablesAfter s.port.enables (value.setWidth 10) (mask.setWidth 10)
    execNotifyEnable value mask s =
      .next (({ s with port := { s.port with enables := enables } }).hold ⟨.done, byte2 enables.toNat⟩) := by
  simp only [execNotifyEnable, State.onCommand_open opened, flagSet_of_lt within, done_fst, done_snd, flagBytes]

theorem execNotifyClear_done (within : mask.toNat < 1024) :
    let flags := flagsAfterClear s.port.flags (mask.setWidth 10)
    execNotifyClear mask s =
      .next (({ s with port := { s.port with flags := flags } }).hold ⟨.done, byte2 flags.toNat⟩) := by
  simp only [execNotifyClear, State.onCommand_open opened, flagSet_of_lt within, done_fst, done_snd, flagBytes]

end

end Sys2Proof.Machine

open Sys2Proof Sys2Proof.Machine

/-- Settles O9: a mask above bit 9 is refused by both commands; any other gives the new enables and the new flags bit by bit,
and a set flag whose enable the mask takes from a 1 of the value asserts ALERT. -/
theorem notifyEnableAndClear : Obligations.NotifyEnableAndClear := by
  unfold Obligations.NotifyEnableAndClear
  intro value mask s opened
  simp only [exec_notifyEnable, exec_notifyClear]
  refine ⟨fun above => ⟨execNotifyEnable_range opened above value, execNotifyClear_range opened above⟩, fun within => ?_⟩
  have enabledBit : ∀ i, i < 10 →
      (enablesAfter s.port.enables (value.setWidth 10) (mask.setWidth 10)).getLsbD i =
        if mask.getLsbD i then value.getLsbD i else s.port.enables.getLsbD i := fun i isFlag => by
    rw [getLsbD_enablesAfter isFlag, getLsbD_setWidth_flag isFlag, getLsbD_setWidth_flag isFlag]
  refine ⟨_, _, enabledBit, fun i isFlag => ?clearedBit, execNotifyEnable_done opened within value,
    fun i isFlag masked wanted set => ?alert, execNotifyClear_done opened within⟩
  case clearedBit => rw [getLsbD_flagsAfterClear isFlag, getLsbD_setWidth_flag isFlag]
  case alert => exact Port.alert_of_flag set ((enabledBit i isFlag).trans ((if_pos masked).trans wanted))

end

section
/-! PROOFS. The footprint of every command and event: the parts of the state that it can touch, said once, from which the
statements about the whole machine go; and O1, O2. -/

namespace Sys2Proof.Machine

/-! ## Parts of the state -/

/-- A part of the state that a command may leave alone. `noFlagCleared` is the weaker half of leaving the flags alone. -/
inductive Aspect where
  | inReset | hinge | posture | table | frame | comp | panel (x : Panel) | linger | scripts | straps | enables | startUp
  | flags | noFlagCleared
deriving DecidableEq

/-- A part stands in `t` as it does in `s`. -/
def State.Same (s t : State) : Aspect → Prop
  | .inReset => t.inReset = s.inReset
  | .hinge => t.hinge = s.hinge
  | .posture => t.posture = s.posture
  | .table => t.table = s.table
  | .frame => t.frame = s.frame
  | .comp => t.comp = s.comp
  | .panel x => t.panel x = s.panel x
  | .linger => t.lingerTime = s.lingerTime
  | .scripts => t.scripts = s.scripts
  | .straps => t.port.straps = s.port.straps
  | .enables => t.port.enables = s.port.enables
  | .startUp => t.port.startUpCloses = s.port.startUpCloses
  | .flags => t.port.flags = s.port.flags
  | .noFlagCleared => ∀ i, s.port.flags.getLsbD i = true → t.port.flags.getLsbD i = true

/-- From `s` to `t` the queue stands, the clock does not run back, and every part not listed stands. -/
structure State.Touches (parts : List Aspect) (s t : State) : Prop where
  pending : t.pending = s.pending
  clock : s.now ≤ t.now
  same : ∀ p, p ∉ parts → s.Same t p

theorem State.Same.refl (s : State) (p : Aspect) : s.Same s p := by
  cases p <;> simp [State.Same]

theorem State.Same.trans {s t u : State} {p : Aspect} (first : s.Same t p) (second : t.Same u p) : s.Same u p := by
  cases p
  case noFlagCleared => exact fun i set => second i (first i set)
  all_goals exact Eq.trans second first

namespace State.Touches

variable {s t u : State} {parts more : List Aspect}

theorem refl (s : State) (parts : List Aspect) : s.Touches parts s :=
  ⟨rfl, le_rfl, fun p _ => State.Same.refl s p⟩

theorem trans (first : s.Touches parts t) (second : t.Touches parts u) : s.Touches parts u :=
  ⟨second.pending.trans first.pending, first.clock.trans second.clock,
    fun p notListed => (first.same p notListed).trans (second.same p notListed)⟩

theorem mono (touches : s.Touches parts t) (fewer : parts ⊆ more) : s.Touches more t :=
  ⟨touches.pending, touches.clock, fun p notListed => touches.same p fun listed => notListed (fewer listed)⟩

end State.Touches

/-! ## The updates of the state -/

section
variable (s : State)

theorem State.touches_hold (r : Reply) : s.Touches [] (s.hold r) :=
  ⟨rfl, le_rfl, fun p _ => by cases p <;> simp [State.Same]⟩

theorem State.touches_droveLow : s.Touches [] s.droveLow :=
  ⟨rfl, le_rfl, fun p _ => by cases p with | panel x => cases x <;> rfl | _ => simp [State.Same]⟩

theorem State.touches_reach (due : Nat) : s.Touches [] (s.reach due) :=
  ⟨rfl, le_max_left _ _, fun p _ => by cases p <;> simp [State.Same]⟩

theorem State.touches_raiseIf (b : Bool) (g : Flag) : s.Touches [.flags] (s.raiseIf b g) :=
  ⟨State.raiseIf_pending b g s, (State.raiseIf_now b g s).ge, fun p notListed => by
    cases p
    case flags => simp at notListed
    case noFlagCleared =>
      cases b with
      | false => exact fun _ set => set
      | true => exact fun i set => by simp [set]
    all_goals simp [State.Same]⟩

theorem State.Touches.raiseIf {s t : State} {parts : List Aspect} (touches : s.Touches parts t) (b : Bool) (g : Flag)
    (flagsListed : .flags ∈ parts := by decide) : s.Touches parts (t.raiseIf b g) :=
  touches.trans ((t.touches_raiseIf b g).mono (by simpa using flagsListed))

theorem State.touches_setPanel (x : Panel) (v : PanelUnit) : s.Touches [.panel x] (s.setPanel x v) :=
  ⟨State.setPanel_pending x v s, (State.setPanel_now x v s).ge, fun p notListed => by
    cases p
    case panel y => exact State.panel_setPanel_of_ne (fun e => notListed (by simp [e])) v s
    all_goals simp [State.Same]⟩

theorem State.touches_setDraft (v : View) : s.Touches [.table] (s.setDraft v) :=
  ⟨rfl, le_rfl, fun p notListed => by
    cases p
    case table => simp at notListed
    case panel x => cases x <;> rfl
    all_goals simp [State.Same]⟩

end

/-! ## The work of events -/

section
variable (s : State)

theorem State.touches_onPanel (x : Panel) (work : PanelEnv → PanelWork → PanelWork) :
    s.Touches [.panel x, .flags] (s.onPanel x work) :=
  .trans (.mono (s.touches_setPanel x _) (by simp)) (.mono (State.touches_raiseIf _ _ _) (by simp))

theorem State.touches_onPanelDue (x : Panel) (due : Option Nat) (work : PanelEnv → PanelWork → PanelWork) :
    s.Touches [.panel x, .flags] (s.onPanelDue x due work) := by
  cases due with
  | none => exact .refl s _
  | some t => exact .trans (.mono (s.touches_reach t) (by simp)) ((s.reach t).touches_onPanel x work)

/-- What posture work can touch. -/
def postureParts : List Aspect := [.posture, .panel .a, .panel .b, .flags]

theorem State.touches_posture (u : PostureUnit) : s.Touches [.posture] { s with posture := u } :=
  ⟨rfl, le_rfl, fun p notListed => by
    cases p
    case posture => simp at notListed
    case panel x => cases x <;> rfl
    all_goals simp [State.Same]⟩

theorem State.touches_deliverTo (x : Panel) : s.Touches postureParts (s.deliverTo x) := by
  rcases s.deliverTo_eq x with ⟨-, e⟩ | ⟨-, e⟩
  · rw [e]
    exact .refl s _
  · rw [e]
    exact .trans (.mono (s.touches_posture _) (by simp [postureParts]))
      (.mono (State.touches_onPanel _ x _) (by cases x <;> simp [postureParts]))

theorem State.touches_setPosture (u : PostureUnit) : s.Touches postureParts (s.setPosture u) :=
  .trans (.mono (s.touches_posture u) (by simp [postureParts]))
    ((State.touches_deliverTo _ .a).trans (State.touches_deliverTo _ .b))

theorem State.touches_hinge (h : Hinge) : s.Touches [.hinge] { s with hinge := h } :=
  ⟨rfl, le_rfl, fun p notListed => by
    cases p
    case hinge => simp at notListed
    case panel x => cases x <;> rfl
    all_goals simp [State.Same]⟩

/-- What the sampling events can touch. -/
def sampleParts : List Aspect := .hinge :: postureParts

theorem State.touches_completeSample (sm : Sample) : s.Touches sampleParts (s.completeSample sm) := by
  have own : s.Touches sampleParts { s with hinge := (s.hinge.complete s.port.straps sm).unit } :=
    (s.touches_hinge _).mono (by simp [sampleParts])
  have delivered : ∀ (t : State) u, t.Touches sampleParts (t.setPosture u) := fun t u =>
    (t.touches_setPosture u).mono (by simp [sampleParts])
  exact (((own.raiseIf _ _).raiseIf _ _).trans (delivered _ _)).raiseIf _ _

theorem State.touches_endRead (p : Pivot) (r : Reading) : s.Touches sampleParts (s.endRead p r) := by
  unfold State.endRead
  split
  · exact .refl s _
  · split
    · dsimp only
      split
      · exact s.touches_completeSample _
      · exact .mono (s.touches_hinge _) (by simp [sampleParts])
    · exact .refl s _

theorem State.touches_readTimesOut (p : Pivot) : s.Touches sampleParts (s.readTimesOut p) := by
  unfold State.readTimesOut
  split
  · exact .refl s _
  · split
    · exact .trans (.mono (s.touches_reach _) (by simp)) (State.touches_endRead _ _ _)
    · exact .refl s _

theorem State.touches_frame (f : FrameStore) : s.Touches [.frame] { s with frame := f } :=
  ⟨rfl, le_rfl, fun p notListed => by
    cases p
    case frame => simp at notListed
    case panel x => cases x <;> rfl
    all_goals simp [State.Same]⟩

theorem State.touches_table (b : Table) : s.Touches [.table] { s with table := b } :=
  ⟨rfl, le_rfl, fun p notListed => by
    cases p
    case table => simp at notListed
    case panel x => cases x <;> rfl
    all_goals simp [State.Same]⟩

theorem State.touches_scripts (m : ScriptMemory) : s.Touches [.scripts] { s with scripts := m } :=
  ⟨rfl, le_rfl, fun p notListed => by
    cases p
    case scripts => simp at notListed
    case panel x => cases x <;> rfl
    all_goals simp [State.Same]⟩

theorem State.touches_linger (l : Nat) : s.Touches [.linger] { s with lingerTime := l } :=
  ⟨rfl, le_rfl, fun p notListed => by
    cases p
    case linger => simp at notListed
    case panel x => cases x <;> rfl
    all_goals simp [State.Same]⟩

/-- A new Command Port touches its enables, its start-up window and its flags, when it changes them. -/
theorem State.touches_port {parts : List Aspect} {q : Port} (straps : q.straps = s.port.straps)
    (enables : .enables ∈ parts ∨ q.enables = s.port.enables)
    (startUp : .startUp ∈ parts ∨ q.startUpCloses = s.port.startUpCloses)
    (flags : (.flags ∈ parts ∧ .noFlagCleared ∈ parts) ∨ q.flags = s.port.flags) :
    s.Touches parts { s with port := q } :=
  ⟨rfl, le_rfl, fun p notListed => by
    cases p
    case straps => exact straps
    case enables => exact enables.resolve_left notListed
    case startUp => exact startUp.resolve_left notListed
    case flags => exact flags.resolve_left fun listed => notListed listed.1
    case noFlagCleared =>
      have same : q.flags = s.port.flags := flags.resolve_left fun listed => notListed listed.2
      exact fun i set => same ▸ set
    case panel x => cases x <;> rfl
    all_goals simp [State.Same]⟩

/-- What an output frame start can touch. -/
def frameStartParts : List Aspect := [.table, .frame, .comp, .panel .a, .panel .b, .flags]

theorem State.touches_panels (u v : PanelUnit) : s.Touches [.panel .a, .panel .b] { s with panelA := u, panelB := v } :=
  .trans (.mono (s.touches_setPanel .a u) (by simp)) (.mono (State.touches_setPanel _ .b v) (by simp))

theorem State.touches_comp (c : Composition) : s.Touches [.comp] { s with comp := c } :=
  ⟨rfl, le_rfl, fun p notListed => by
    cases p
    case comp => simp at notListed
    case panel x => cases x <;> rfl
    all_goals simp [State.Same]⟩

theorem State.touches_frameOut : s.Touches frameStartParts s.frameOut := by
  have banks : s.Touches frameStartParts { s with frame := s.frame.frameOut.beginPeriod s.now } :=
    (s.touches_frame _).mono (by simp [frameStartParts])
  exact (banks.trans ((State.touches_table _ _).mono (by simp [frameStartParts]))).raiseIf _ _

theorem State.touches_compose : s.Touches frameStartParts s.compose := by
  have composed : s.Touches frameStartParts { s with comp := s.comp.after s.scene } :=
    (s.touches_comp _).mono (by simp [frameStartParts])
  have begun := composed.trans
    ((State.touches_panels _ s.panelA.beginFrame s.panelB.beginFrame).mono (by simp [frameStartParts]))
  exact ((begun.raiseIf _ _).raiseIf _ _).raiseIf _ _

end

/-! ## Gates and resets -/

section
variable {s t : State} {parts : List Aspect}

theorem State.onEvent_touches {work : State → State} (h : s.onEvent work = .next t) (touches : s.Touches parts (work s)) :
    s.Touches parts t := by
  rcases State.onEvent_next h with ⟨-, rfl⟩ | ⟨-, rfl⟩
  · exact .refl _ _
  · exact touches

theorem State.onCommand_touches {work : State → State × Reply} (h : s.onCommand work = .next t)
    (touches : s.Touches parts (work s).1) : s.Touches parts t := by
  rcases State.onCommand_next h with ⟨-, rfl⟩ | ⟨-, rfl⟩
  · exact (s.touches_droveLow).mono (by simp)
  · exact touches.trans ((State.touches_hold _ _).mono (by simp))

end

/-- What SOFT RESET can touch: the gate, Script Memory and the straps stand. -/
def softResetParts : List Aspect :=
  [.hinge, .posture, .table, .frame, .comp, .panel .a, .panel .b, .linger, .enables, .startUp, .flags, .noFlagCleared]

/-- What a pin reset can touch: the straps stand. -/
def pinResetParts : List Aspect := .inReset :: .scripts :: softResetParts

theorem State.touches_softReset (s : State) : s.Touches softResetParts s.softReset :=
  ⟨rfl, le_rfl, fun p notListed => by
    cases p
    case inReset | scripts | straps => rfl
    case panel x => cases x <;> simp [softResetParts] at notListed
    all_goals simp [softResetParts] at notListed⟩

theorem State.touches_pinReset (s : State) : s.Touches pinResetParts s.pinReset :=
  ⟨rfl, le_rfl, fun p notListed => by
    cases p
    case straps => rfl
    case panel x => cases x <;> simp [pinResetParts, softResetParts] at notListed
    all_goals simp [pinResetParts, softResetParts] at notListed⟩

/-! ## Every command and event -/

/-- What a command at a panel, named by a byte, can touch. -/
def panelParts : List Aspect := [.panel .a, .panel .b, .flags]

/-- The parts that a command or event can touch. -/
def partsOf : Instr → List Aspect
  | .sampleIntervalExpiry | .sensorReply _ _ _ | .sensorReadTimeout _ => sampleParts
  | .sourceFrameStart => [.table, .frame, .flags]
  | .lineEnd _ _ | .frmreqPulseEnd => [.frame]
  | .sourceFrameEnd => [.frame, .flags]
  | .outputFrameStart => frameStartParts
  | .outputFrameEnd => [.panel .a, .panel .b, .flags]
  | .panelLinkReply x _ | .replyTimeout x | .waitEnd x | .pollReadDue x | .pollTimeout x | .attention x |
    .lingerExpiry x | .recoveryWindowClose x => [.panel x, .flags]
  | .attentionLineRelease x => [.panel x]
  | .startUpWindowClose => [.startUp]
  | .pinReset _ => pinResetParts
  | .resetnRelease _ => [.inReset, .hinge, .posture, .frame, .straps, .startUp]
  | .softReset => softResetParts
  | .notifyEnable _ _ => [.enables]
  | .notifyClear _ => [.flags, .noFlagCleared]
  | .hingeConfig _ _ _ | .zeroWrite _ _ | .zeroCapture => [.hinge]
  | .zonesWrite _ _ _ _ _ => [.posture]
  | .postureConfig _ _ _ | .profileWrite _ _ | .trackModeTrack | .trackModeHold | .trackModeForce _ | .leadSet _ => postureParts
  | .entryBind _ | .entrySet _ _ _ | .entryRetire _ | .tagRetire _ | .tablePublish | .draftRevert => [.table]
  | .timingSet _ => [.frame, .panel .a, .panel .b]
  | .scriptWrite _ _ | .slotSet _ _ _ _ => [.scripts]
  | .panelRestart _ | .panelStop _ | .panelCheck _ => panelParts
  | .panelConfig _ => [.linger]
  | _ => []

theorem execSampleIntervalExpiry_touches {s t : State} (h : execSampleIntervalExpiry s = .next t) :
    s.Touches sampleParts t := by
  refine State.onEvent_touches h ?_
  have ended := (s.touches_readTimesOut .left).trans (State.touches_readTimesOut _ .right)
  have reached := ended.trans ((State.touches_reach _ s.hinge.nextSampleAt).mono (by simp))
  exact reached.trans ((State.touches_hinge _ _).mono (by simp [sampleParts]))

theorem execOutputFrameStart_touches {s t : State} (h : execOutputFrameStart s = .next t) :
    s.Touches frameStartParts t := by
  refine State.onEvent_touches h ?_
  have reached : s.Touches frameStartParts (s.reach (s.frame.periodStart + s.frame.rate.period)) :=
    (s.touches_reach _).mono (by simp)
  have ended := reached.trans
    ((State.touches_panels _ s.panelA.blankingEnds s.panelB.blankingEnds).mono (by simp [frameStartParts]))
  exact (ended.trans (State.touches_frameOut _)).trans (State.touches_compose _)

theorem execOutputFrameEnd_touches {s t : State} (h : execOutputFrameEnd s = .next t) :
    s.Touches [.panel .a, .panel .b, .flags] t := by
  have opens : ∀ (u : State) (x : Panel) (b : Bool), u.Touches [.panel .a, .panel .b, .flags]
      (if b then u.onPanel x PanelWork.blankingOpens else u) := fun u x b => by
    cases b with
    | false => exact .refl u _
    | true => exact (u.touches_onPanel x _).mono (by cases x <;> simp)
  refine State.onEvent_touches h ?_
  exact ((((s.touches_reach _).mono (by simp)).trans (opens _ .a _)).trans (opens _ .b _))

theorem execAttention_touches {x : Panel} {s t : State} (h : execAttention x s = .next t) :
    s.Touches [.panel x, .flags] t := by
  have line : s.Touches [.panel x, .flags] (s.setAttentionLine x true) := (s.touches_setPanel x _).mono (by simp)
  unfold execAttention at h
  split at h <;> cases h
  · exact line
  · exact line.trans (State.touches_onPanel _ x _)

theorem execPinReset_touches {n : Nat} {s t : State} (h : execPinReset n s = .next t) : s.Touches pinResetParts t := by
  have counted : s.Touches pinResetParts { s with shortPulses := s.shortPulses + 1 } :=
    ⟨rfl, le_rfl, fun p _ => by cases p with | panel x => cases x <;> rfl | _ => simp [State.Same]⟩
  simp only [execPinReset, Host.Outcome.next.injEq] at h
  subst h
  split <;> [skip; split <;> [split; skip]]
  · exact .refl s _
  · exact counted.trans (State.touches_pinReset _)
  · exact counted
  · exact s.touches_pinReset

theorem execResetnRelease_touches {straps : Straps} {s t : State} (h : execResetnRelease straps s = .next t) :
    s.Touches [.inReset, .hinge, .posture, .frame, .straps, .startUp] t := by
  simp only [execResetnRelease, Host.Outcome.next.injEq] at h
  subst h
  split
  · refine ⟨rfl, le_rfl, fun p notListed => ?_⟩
    cases p
    case panel x => cases x <;> rfl
    case inReset | hinge | posture | frame | straps | startUp => simp at notListed
    all_goals simp [State.Same]
  · exact .refl s _

theorem execSourceFrameStart_touches {s t : State} (h : execSourceFrameStart s = .next t) :
    s.Touches [.table, .frame, .flags] t := by
  refine State.onEvent_touches h ?_
  have begun : s.Touches [.table, .frame, .flags] { s with frame := s.frame.frameStart } :=
    (s.touches_frame _).mono (by simp)
  exact (begun.trans ((State.touches_table _ s.table.bind).mono (by simp))).raiseIf _ _

theorem execSourceFrameEnd_touches {s t : State} (h : execSourceFrameEnd s = .next t) :
    s.Touches [.frame, .flags] t := by
  refine State.onEvent_touches h ?_
  split
  · split
    · exact (s.touches_frame _).mono (by simp)
    · exact ((s.touches_frame _).mono (by simp)).raiseIf true .frameLoss
  · exact .refl s _

theorem execFrmreqPulseEnd_touches {s t : State} (h : execFrmreqPulseEnd s = .next t) : s.Touches [.frame] t := by
  refine State.onEvent_touches h ?_
  split
  · exact (s.touches_frame _).trans ((State.touches_reach _ _).mono (by simp))
  · exact .refl s _

theorem execStartUpWindowClose_touches {s t : State} (h : execStartUpWindowClose s = .next t) :
    s.Touches [.startUp] t := by
  refine State.onEvent_touches h ?_
  split
  · have closed : s.Touches [.startUp] { s with port := { s.port with startUpCloses := none } } :=
      s.touches_port rfl (by simp) (by simp) (by simp)
    exact closed.trans ((State.touches_reach _ _).mono (by simp))
  · exact .refl s _

theorem execCommandLinkError_touches {bytes : List Byte} {s t : State} (h : execCommandLinkError bytes s = .next t) :
    s.Touches [] t := by
  simp only [execCommandLinkError, Host.Outcome.next.injEq] at h
  subst h
  split
  · refine .trans ?_ (State.touches_droveLow _)
    split
    · exact s.touches_port rfl (by simp [Port.addLinkError]) (by simp [Port.addLinkError]) (by simp [Port.addLinkError])
    · exact .refl s _
  · exact .refl s _

theorem execReplyRead_touches {n : Nat} {s t : State} (h : execReplyRead n s = .next t) : s.Touches [] t := by
  simp only [execReplyRead, Host.Outcome.next.injEq] at h
  subst h
  split
  · split <;> exact s.touches_port rfl (by simp) (by simp) (by simp)
  · exact s.touches_droveLow

theorem execTimingSet_touches {b : Byte} {s t : State} (h : execTimingSet b s = .next t) :
    s.Touches [.frame, .panel .a, .panel .b] t := by
  refine State.onCommand_touches h ?_
  split
  · exact .refl s _
  · split
    · have timed : s.Touches [.frame, .panel .a, .panel .b] { s with frame := { s.frame with rate := ‹_›, periodStart := s.now } } :=
        (s.touches_frame _).mono (by simp)
      exact timed.trans ((State.touches_panels _ s.panelA.abandonFrame s.panelB.abandonFrame).mono (by simp))
    · exact .refl s _

/-- The commands whose whole effect is their reply: the reads, and TRACK MODE with an invalid mode. -/
def isRead : Instr → Bool
  | .identify | .notifyRead | .hingeRead | .zeroRead | .zonesRead | .profileRead _ | .postureRead | .entryRead _ _ |
    .entryStatus _ | .tagFind _ | .placementRead _ | .reflowRead | .layersRead | .frameStatus | .scriptRead _ _ |
    .panelRead _ | .trackModeInvalidMode _ _ => true
  | _ => false

/-- A command whose work leaves the state holds its reply, or is ignored with the port closed. -/
theorem State.onCommand_of_stands {s t : State} {work : State → State × Reply} (h : s.onCommand work = .next t)
    (stands : (work s).1 = s) : t = s.droveLow ∨ ∃ r, t = s.hold r := by
  rcases State.onCommand_next h with ⟨-, rfl⟩ | ⟨-, rfl⟩
  · exact .inl rfl
  · exact .inr ⟨(work s).2, by rw [stands]⟩

theorem exec_read {c : Instr} {s t : State} (read : isRead c = true) (h : exec c s = .next t) :
    t = s.droveLow ∨ ∃ r, t = s.hold r := by
  cases c <;> simp only [exec] at h
  case identify | notifyRead | hingeRead | zeroRead | zonesRead | postureRead | tagFind | reflowRead | layersRead |
      frameStatus | trackModeInvalidMode =>
    refine State.onCommand_of_stands h ?_
    rfl
  case profileRead b | entryStatus b | panelRead b | scriptRead b n =>
    refine State.onCommand_of_stands h ?_
    split <;> rfl
  case entryRead b v =>
    refine State.onCommand_of_stands h ?_
    split <;> [split; skip] <;> rfl
  case placementRead b =>
    refine State.onCommand_of_stands h ?_
    split <;> [skip; split] <;> rfl
  all_goals exact absurd read Bool.false_ne_true

section
variable {s t : State}

theorem execSensorReply_touches {p : Pivot} {raw : RawCount} {ok : Bool} (h : execSensorReply p raw ok s = .next t) :
    s.Touches sampleParts t :=
  State.onEvent_touches h (s.touches_endRead p _)

theorem execSensorReadTimeout_touches {p : Pivot} (h : execSensorReadTimeout p s = .next t) : s.Touches sampleParts t :=
  State.onEvent_touches h (s.touches_readTimesOut p)

theorem execLineEnd_touches {n : BitVec 12} {px : List Colour} (h : execLineEnd n px s = .next t) :
    s.Touches [.frame] t :=
  State.onEvent_touches h (s.touches_frame _)

/-- A timed event at a panel. -/
theorem State.onEvent_onPanelDue_touches {x : Panel} {due : State → Option Nat} {work : PanelEnv → PanelWork → PanelWork}
    (h : (s.onEvent fun s => s.onPanelDue x (due s) work) = .next t) : s.Touches [.panel x, .flags] t :=
  State.onEvent_touches h (s.touches_onPanelDue x _ _)

theorem execAttentionLineRelease_touches {x : Panel} (h : execAttentionLineRelease x s = .next t) :
    s.Touches [.panel x] t := by
  cases h
  exact s.touches_setPanel x _

theorem execNotifyEnable_touches {value mask : Half} (h : execNotifyEnable value mask s = .next t) :
    s.Touches [.enables] t := by
  refine State.onCommand_touches h ?_
  split
  · exact .refl s _
  · exact s.touches_port rfl (by simp) (by simp) (by simp)

theorem execNotifyClear_touches {mask : Half} (h : execNotifyClear mask s = .next t) :
    s.Touches [.flags, .noFlagCleared] t := by
  refine State.onCommand_touches h ?_
  split
  · exact .refl s _
  · exact s.touches_port rfl (by simp) (by simp) (by simp)

theorem execHingeConfig_touches {i k l : Half} (h : execHingeConfig i k l s = .next t) : s.Touches [.hinge] t := by
  refine State.onCommand_touches h ?_
  split
  · exact .refl s _
  · exact s.touches_hinge _

theorem execZeroWrite_touches {zl zr : Half} (h : execZeroWrite zl zr s = .next t) : s.Touches [.hinge] t := by
  refine State.onCommand_touches h ?_
  split <;> [skip; split]
  · exact .refl s _
  · exact .refl s _
  · exact s.touches_hinge _

theorem execZeroCapture_touches (h : execZeroCapture s = .next t) : s.Touches [.hinge] t := by
  refine State.onCommand_touches h ?_
  split
  · exact .refl s _
  · exact s.touches_hinge _

theorem execZonesWrite_touches {b1 b2 b3 b4 b5 : Half} (h : execZonesWrite b1 b2 b3 b4 b5 s = .next t) :
    s.Touches [.posture] t := by
  refine State.onCommand_touches h ?_
  split
  · exact .refl s _
  · exact s.touches_posture _

theorem execPostureConfig_touches {hy d m : Half} (h : execPostureConfig hy d m s = .next t) :
    s.Touches postureParts t :=
  State.onCommand_touches h (s.touches_setPosture _)

theorem execProfileWrite_touches {b : Byte} {f : RawProfile} (h : execProfileWrite b f s = .next t) :
    s.Touches postureParts t := by
  refine State.onCommand_touches h ?_
  split
  · exact s.touches_setPosture _
  · exact .refl s _

theorem execTrackModeTrack_touches (h : execTrackModeTrack s = .next t) : s.Touches postureParts t :=
  State.onCommand_touches h (s.touches_setPosture _)

theorem execTrackModeHold_touches (h : execTrackModeHold s = .next t) : s.Touches postureParts t :=
  State.onCommand_touches h (s.touches_setPosture _)

theorem execTrackModeForce_touches {b : Byte} (h : execTrackModeForce b s = .next t) : s.Touches postureParts t := by
  refine State.onCommand_touches h ?_
  split
  · exact .refl s _
  · exact (s.touches_setPosture _).raiseIf _ _

theorem execLeadSet_touches {b : Byte} (h : execLeadSet b s = .next t) : s.Touches postureParts t := by
  refine State.onCommand_touches h ?_
  split <;> [skip; split]
  · exact .refl s _
  · exact .refl s _
  · exact s.touches_setPosture _

theorem execEntryBind_touches {f : RawEntry} (h : execEntryBind f s = .next t) : s.Touches [.table] t := by
  refine State.onCommand_touches h ?_
  split <;> [skip; split]
  · exact .refl s _
  · exact .refl s _
  · exact s.touches_setDraft _

theorem execEntrySet_touches {b sel : Byte} {f : RawEntry} (h : execEntrySet b sel f s = .next t) :
    s.Touches [.table] t := by
  refine State.onCommand_touches h ?_
  split <;> [skip; (split <;> [skip; split])]
  · exact .refl s _
  · exact .refl s _
  · exact .refl s _
  · exact s.touches_setDraft _

theorem execEntryRetire_touches {b : Byte} (h : execEntryRetire b s = .next t) : s.Touches [.table] t := by
  refine State.onCommand_touches h ?_
  split <;> [skip; split]
  · exact .refl s _
  · exact s.touches_setDraft _
  · exact .refl s _

theorem execTagRetire_touches {tag : Half} (h : execTagRetire tag s = .next t) : s.Touches [.table] t :=
  State.onCommand_touches h (s.touches_setDraft _)

theorem execTablePublish_touches (h : execTablePublish s = .next t) : s.Touches [.table] t :=
  State.onCommand_touches h (s.touches_table _)

theorem execDraftRevert_touches (h : execDraftRevert s = .next t) : s.Touches [.table] t :=
  State.onCommand_touches h (s.touches_setDraft _)

theorem execScriptWrite_touches {start : Byte} {raw : List RawStep} (h : execScriptWrite start raw s = .next t) :
    s.Touches [.scripts] t := by
  refine State.onCommand_touches h ?_
  split <;> [skip; (split <;> [skip; split])]
  · exact .refl s _
  · exact .refl s _
  · exact .refl s _
  · exact s.touches_scripts _

theorem execSlotSet_touches {b sl p i : Byte} (h : execSlotSet b sl p i s = .next t) : s.Touches [.scripts] t := by
  refine State.onCommand_touches h ?_
  split <;> [split; skip]
  · exact .refl s _
  · exact s.touches_scripts _
  · exact .refl s _

theorem State.touches_onPanel_either (x : Panel) (work : PanelEnv → PanelWork → PanelWork) :
    s.Touches panelParts (s.onPanel x work) :=
  (s.touches_onPanel x work).mono (by cases x <;> simp [panelParts])

theorem execPanelRestart_touches {b : Byte} (h : execPanelRestart b s = .next t) : s.Touches panelParts t := by
  refine State.onCommand_touches h ?_
  split <;> [skip; split]
  · exact .refl s _
  · exact s.touches_onPanel_either _ _
  · exact .refl s _

theorem execPanelStop_touches {b : Byte} (h : execPanelStop b s = .next t) : s.Touches panelParts t := by
  refine State.onCommand_touches h ?_
  split <;> [skip; split]
  · exact .refl s _
  · exact .refl s _
  · rw [done_fst]
    exact s.touches_onPanel_either _ _

theorem execPanelCheck_touches {b : Byte} (h : execPanelCheck b s = .next t) : s.Touches panelParts t := by
  refine State.onCommand_touches h ?_
  split <;> [skip; (split <;> [skip; split])]
  · exact .refl s _
  · exact .refl s _
  · exact .refl s _
  · exact s.touches_onPanel_either _ _

theorem execPanelConfig_touches {l : Half} (h : execPanelConfig l s = .next t) : s.Touches [.linger] t :=
  State.onCommand_touches h (s.touches_linger _)

end

/-- Everything a command or event can do lies in its parts. -/
theorem exec_touches {c : Instr} {s t : State} (h : exec c s = .next t) : s.Touches (partsOf c) t := by
  cases c
  case sampleIntervalExpiry => exact execSampleIntervalExpiry_touches h
  case sensorReply => exact execSensorReply_touches h
  case sensorReadTimeout => exact execSensorReadTimeout_touches h
  case sourceFrameStart => exact execSourceFrameStart_touches h
  case lineEnd => exact execLineEnd_touches h
  case sourceFrameEnd => exact execSourceFrameEnd_touches h
  case outputFrameStart => exact execOutputFrameStart_touches h
  case frmreqPulseEnd => exact execFrmreqPulseEnd_touches h
  case outputFrameEnd => exact execOutputFrameEnd_touches h
  case attention => exact execAttention_touches h
  case attentionLineRelease => exact execAttentionLineRelease_touches h
  case commandLinkError => exact execCommandLinkError_touches h
  case replyRead => exact execReplyRead_touches h
  case startUpWindowClose => exact execStartUpWindowClose_touches h
  case pinReset => exact execPinReset_touches h
  case resetnRelease => exact execResetnRelease_touches h
  case notifyEnable => exact execNotifyEnable_touches h
  case notifyClear => exact execNotifyClear_touches h
  case hingeConfig => exact execHingeConfig_touches h
  case zeroWrite => exact execZeroWrite_touches h
  case zeroCapture => exact execZeroCapture_touches h
  case zonesWrite => exact execZonesWrite_touches h
  case postureConfig => exact execPostureConfig_touches h
  case profileWrite => exact execProfileWrite_touches h
  case trackModeTrack => exact execTrackModeTrack_touches h
  case trackModeHold => exact execTrackModeHold_touches h
  case trackModeForce => exact execTrackModeForce_touches h
  case leadSet => exact execLeadSet_touches h
  case entryBind => exact execEntryBind_touches h
  case entrySet => exact execEntrySet_touches h
  case entryRetire => exact execEntryRetire_touches h
  case tagRetire => exact execTagRetire_touches h
  case tablePublish => exact execTablePublish_touches h
  case draftRevert => exact execDraftRevert_touches h
  case timingSet => exact execTimingSet_touches h
  case scriptWrite => exact execScriptWrite_touches h
  case slotSet => exact execSlotSet_touches h
  case panelRestart => exact execPanelRestart_touches h
  case panelStop => exact execPanelStop_touches h
  case panelCheck => exact execPanelCheck_touches h
  case panelConfig => exact execPanelConfig_touches h
  case panelLinkReply x packet => exact State.onEvent_touches (work := fun s => _) h (s.touches_onPanel x _)
  case replyTimeout x => exact State.onEvent_onPanelDue_touches (due := fun s => (s.panel x).replyDue) h
  case waitEnd x => exact State.onEvent_onPanelDue_touches (due := fun s => (s.panel x).waitDue) h
  case pollReadDue x => exact State.onEvent_onPanelDue_touches (due := fun s => (s.panel x).pollDue) h
  case pollTimeout x =>
    exact State.onEvent_onPanelDue_touches (due := fun s => (s.panel x).pollDeadline s.scripts.steps) h
  case lingerExpiry x => exact State.onEvent_onPanelDue_touches (due := fun s => (s.panel x).lingerDue) h
  case recoveryWindowClose x => exact State.onEvent_onPanelDue_touches (due := fun s => (s.panel x).recoveryWindow) h
  case softReset => exact State.onCommand_touches (work := fun s => done s.softReset []) h s.touches_softReset
  all_goals
    rcases exec_read rfl h with rfl | ⟨r, rfl⟩
    · exact s.touches_droveLow
    · exact s.touches_hold r

/-- A part that a command or event does not touch stands. -/
theorem exec_same {c : Instr} {s t : State} (h : exec c s = .next t) (p : Aspect)
    (notListed : (partsOf c).elem p = false) : s.Same t p :=
  (exec_touches h).same p fun listed => by
    rw [List.elem_eq_true_of_mem listed] at notListed
    cases notListed

/-- No command or event stops the part (assumption 20). -/
theorem exec_answers (c : Instr) (s : State) : ∃ t, exec c s = .next t := by
  cases c
  case attention x =>
    by_cases held : (s.inReset || (s.panel x).attentionLine) = true
    · exact ⟨_, if_pos held⟩
    · exact ⟨_, if_neg held⟩
  all_goals exact ⟨_, rfl⟩

theorem step_of_pending {c : Instr} {rest : List Instr} {s : State} (waiting : s.pending = c :: rest) :
    step s = exec c { s with pending := rest } := by
  simp only [step, waiting]

theorem step_of_empty {s : State} (empty : s.pending = []) : step s = .next { s with now := s.now + 1 } := by
  simp only [step, empty]

/-- An invariant that passing time, taking a command from the queue and every command keep is kept by every step. -/
theorem step_keeps {P : State → Prop} (clock : ∀ s n, P s → P { s with now := n })
    (queue : ∀ s q, P s → P { s with pending := q }) (commands : ∀ c s t, P s → exec c s = .next t → P t)
    {s t : State} (holds : P s) (h : step s = .next t) : P t := by
  cases waiting : s.pending with
  | nil =>
    rw [step_of_empty waiting] at h
    cases h
    exact clock s _ holds
  | cons c rest =>
    rw [step_of_pending waiting] at h
    exact commands c _ t (queue s rest holds) h

end Sys2Proof.Machine

open Sys2Proof Sys2Proof.Machine

/-- Settles O1: a step looks at the front of the queue alone. -/
theorem stepRunsTheFrontCommand : Obligations.StepRunsTheFrontCommand := by
  unfold Obligations.StepRunsTheFrontCommand
  exact fun c rest s waiting => step_of_pending waiting

/-- Settles O2: the queue and the clock are part of every footprint. -/
theorem everyCommandAnswersANextState : Obligations.EveryCommandAnswersANextState := by
  unfold Obligations.EveryCommandAnswersANextState
  refine ⟨fun c s => ?_, fun s empty => step_of_empty empty⟩
  obtain ⟨t, answers⟩ := exec_answers c s
  have touches := exec_touches answers
  exact ⟨t, answers, touches.pending, touches.clock⟩

end

section
/-! PROOFS. What a byte of a command names (R179, R180): each decoder by the numbers it takes. -/

namespace Sys2Proof.Machine

/-- The number of a panel in a command. -/
def Panel.number : Panel → Nat
  | .a => 0
  | .b => 1

def ScriptSlot.number : ScriptSlot → Nat
  | .wake => 0
  | .sleep => 1
  | .check => 2

def FitMode.number : FitMode → Nat
  | .crop => 0
  | .halve => 1
  | .hide => 2

def Demand.number : Demand → Nat
  | .on => 0
  | .off => 1
  | .lead => 2
  | .trail => 3

def ViewName.number : ViewName → Nat
  | .draft => 0
  | .staged => 1
  | .capture => 2
  | .shown => 3

section
variable {b : Byte}

theorem panelOfByte_eq_some {x : Panel} : panelOfByte b = some x ↔ b.toNat = Panel.number x := by
  unfold panelOfByte
  split <;> cases x <;> simp_all [Panel.number]

theorem panelOfByte_eq_none : panelOfByte b = none ↔ 1 < b.toNat := by
  unfold panelOfByte
  split <;> simp_all
  omega

theorem boolOfByte_eq_some {v : Bool} : boolOfByte b = some v ↔ b.toNat = v.toNat := by
  unfold boolOfByte
  split <;> cases v <;> simp_all

theorem boolOfByte_eq_none : boolOfByte b = none ↔ 1 < b.toNat := by
  unfold boolOfByte
  split <;> simp_all
  omega

theorem slotOfByte_eq_some {slot : ScriptSlot} : slotOfByte b = some slot ↔ b.toNat = slot.number := by
  unfold slotOfByte
  split <;> cases slot <;> simp_all [ScriptSlot.number]

theorem slotOfByte_eq_none : slotOfByte b = none ↔ 2 < b.toNat := by
  unfold slotOfByte
  split <;> simp_all
  omega

theorem fitOfByte_eq_some {fit : FitMode} : fitOfByte b = some fit ↔ b.toNat = fit.number := by
  unfold fitOfByte
  split <;> cases fit <;> simp_all [FitMode.number]

theorem fitOfByte_eq_none : fitOfByte b = none ↔ 2 < b.toNat := by
  unfold fitOfByte
  split <;> simp_all
  omega

theorem demandOfByte_eq_some {d : Demand} : demandOfByte b = some d ↔ b.toNat = d.number := by
  unfold demandOfByte
  split <;> cases d <;> simp_all [Demand.number]

theorem demandOfByte_eq_none : demandOfByte b = none ↔ 3 < b.toNat := by
  unfold demandOfByte
  split <;> simp_all
  omega

theorem viewOfByte_eq_some {v : ViewName} : viewOfByte b = some v ↔ b.toNat = v.number := by
  unfold viewOfByte
  split <;> cases v <;> simp_all [ViewName.number]

theorem viewOfByte_eq_none : viewOfByte b = none ↔ 3 < b.toNat := by
  unfold viewOfByte
  split <;> simp_all
  omega

theorem postureOfByte_eq_some {p : Posture} : postureOfByte b = some p ↔ b.toNat = p.number.val := by
  unfold postureOfByte Posture.ofNumber
  split <;> cases p <;> simp_all [Posture.number]

theorem postureOfByte_eq_none : postureOfByte b = none ↔ 5 < b.toNat := by
  unfold postureOfByte Posture.ofNumber
  split <;> simp_all
  omega

theorem handleOfByte_eq_some {h : Handle} : handleOfByte b = some h ↔ b.toNat = h.val := by
  refine ⟨fun names => ?_, handleOfByte_of_eq⟩
  simp only [handleOfByte, Option.dite_none_right_eq_some, Option.some.injEq] at names
  obtain ⟨_, rfl⟩ := names
  rfl

theorem rateOfByte_eq_some {r : FrameRate} :
    rateOfByte b = some r ↔ b.toNat = match r with | .hz60 => 60 | .hz90 => 90 | .hz120 => 120 := by
  unfold rateOfByte
  split <;> cases r <;> simp_all

theorem rateOfByte_eq_none : rateOfByte b = none ↔ b.toNat ≠ 60 ∧ b.toNat ≠ 90 ∧ b.toNat ≠ 120 := by
  unfold rateOfByte
  split <;> simp_all

end

end Sys2Proof.Machine
end

section
/-! PROOFS. The field groups of an entry (chapter 3, R51): when each is valid and what it gives, and what ENTRY BIND and
ENTRY SET make of them (O28, O29). -/

namespace Sys2Proof.Machine

/-! ## The checks of R51 -/

/-- A rectangle inside the canvas, with pixels. -/
def Rect.InCanvas (r : Rect) : Prop :=
  r.x < 2400 ∧ r.y < 1680 ∧ 1 ≤ r.w ∧ r.w ≤ 2400 ∧ 1 ≤ r.h ∧ r.h ≤ 1680 ∧ r.x + r.w ≤ 2400 ∧ r.y + r.h ≤ 1680

/-- A point of an area of a given width, as high as the canvas. -/
def Point.Inside (width : Nat) (p : Point) : Prop := p.x < width ∧ p.y < 1680

/-- The checks of R51, group by group; STYLE and TAG have none once an entry is made. -/
theorem Entry.valid_iff {e : Entry} : e.valid = true ↔
    e.source.InCanvas ∧ e.homeAt.Inside 1200 ∧ (∀ p ∈ e.guestAt, p.Inside 1200) ∧ ∀ p ∈ e.spanAt, p.Inside 2400 := by
  simp only [Entry.valid, Rect.InCanvas, Point.Inside, Bool.and_eq_true, decide_eq_true_eq, and_assoc]
  cases e.guestAt <;> cases e.spanAt <;> simp

section
variable {f : RawEntry}

theorem sourceGroup_eq_some {r : Rect} :
    sourceGroup f = some r ↔ r = ⟨f.sx.toNat, f.sy.toNat, f.sw.toNat, f.sh.toNat⟩ ∧ r.InCanvas := by
  simp only [sourceGroup, Option.ite_none_right_eq_some, Option.some.injEq]
  constructor
  · rintro ⟨inside, rfl⟩
    exact ⟨rfl, inside⟩
  · rintro ⟨rfl, inside⟩
    exact ⟨inside, rfl⟩

theorem homeGroup_eq_some {x : Panel} {o : Point} : homeGroup f = some (x, o) ↔
    f.home.toNat = Panel.number x ∧ o = ⟨f.hx.toNat, f.hy.toNat⟩ ∧ o.Inside 1200 := by
  simp only [homeGroup, Option.bind_eq_bind, Option.bind_eq_some_iff, Option.ite_none_right_eq_some, Option.pure_def,
    Option.some.injEq, Prod.mk.injEq, panelOfByte_eq_some]
  constructor
  · rintro ⟨y, names, inside, rfl, rfl⟩
    exact ⟨names, rfl, inside⟩
  · rintro ⟨names, rfl, inside⟩
    exact ⟨x, names, inside, rfl, rfl⟩

/-- An optional origin: absent and not judged, or present and judged. -/
theorem originGroup_eq_some {b : Byte} {x y : Half} {width : Nat} {g : Option Point} :
    originGroup b x y width = some g ↔
      (b.toNat = 0 ∧ g = none) ∨ (b.toNat = 1 ∧ g = some ⟨x.toNat, y.toNat⟩ ∧ x.toNat < width ∧ y.toNat < 1680) := by
  have byte : ∀ v, boolOfByte b = some v ↔ b.toNat = v.toNat := fun v => boolOfByte_eq_some
  simp only [originGroup, Option.bind_eq_bind, Option.bind_eq_some_iff, byte, Bool.exists_bool, Bool.toNat_false,
    Bool.toNat_true, Bool.not_false, Bool.not_true, if_true, Bool.false_eq_true, if_false, Option.pure_def,
    Option.some.injEq, Option.ite_none_right_eq_some]
  grind

theorem guestGroup_eq_some {g : Option Point} : guestGroup f = some g ↔
    (f.guestPresent.toNat = 0 ∧ g = none) ∨
      (f.guestPresent.toNat = 1 ∧ g = some ⟨f.gx.toNat, f.gy.toNat⟩ ∧ f.gx.toNat < 1200 ∧ f.gy.toNat < 1680) :=
  originGroup_eq_some

theorem spanGroup_eq_some {g : Option Point} : spanGroup f = some g ↔
    (f.spanPresent.toNat = 0 ∧ g = none) ∨
      (f.spanPresent.toNat = 1 ∧ g = some ⟨f.px.toNat, f.py.toNat⟩ ∧ f.px.toNat < 2400 ∧ f.py.toNat < 1680) :=
  originGroup_eq_some

theorem styleGroup_eq_some {priority : Fin 8} {fit : FitMode} {visibility : BitVec 6} :
    styleGroup f = some (priority, fit, visibility) ↔
      f.fit.toNat = fit.number ∧ priority.val = f.priority.toNat ∧ visibility.toNat = f.visibility.toNat := by
  simp only [styleGroup, Option.bind_eq_bind, Option.bind_eq_some_iff, fitOfByte_eq_some, Option.dite_none_right_eq_some,
    Option.ite_none_right_eq_some, Option.pure_def, Option.some.injEq, Prod.mk.injEq]
  constructor
  · rintro ⟨_, names, inRange, small, rfl, rfl, rfl⟩
    exact ⟨names, rfl, by simp; omega⟩
  · rintro ⟨names, rank, sees⟩
    have small : f.visibility.toNat < 64 := sees ▸ visibility.isLt
    refine ⟨fit, names, rank ▸ priority.isLt, small, Fin.ext rank.symm, rfl, BitVec.eq_of_toNat_eq ?_⟩
    simp
    omega

theorem Option.eq_none_iff_not {α : Type} {o : Option α} {P : Prop} (given : (∃ v, o = some v) ↔ P) :
    o = none ↔ ¬ P := by
  rw [← given, ← Option.isSome_iff_exists, Option.not_isSome_iff_eq_none]

theorem sourceGroup_eq_none : sourceGroup f = none ↔
    ¬ (Rect.mk f.sx.toNat f.sy.toNat f.sw.toNat f.sh.toNat).InCanvas := by
  refine Option.eq_none_iff_not ⟨?_, fun inside => ⟨_, sourceGroup_eq_some.mpr ⟨rfl, inside⟩⟩⟩
  rintro ⟨r, given⟩
  obtain ⟨rfl, inside⟩ := sourceGroup_eq_some.mp given
  exact inside

theorem homeGroup_eq_none : homeGroup f = none ↔
    ¬ (f.home.toNat ≤ 1 ∧ f.hx.toNat < 1200 ∧ f.hy.toNat < 1680) := by
  refine Option.eq_none_iff_not ⟨?_, fun ⟨panel, inside⟩ => ?_⟩
  · rintro ⟨⟨x, o⟩, given⟩
    obtain ⟨names, rfl, inside⟩ := homeGroup_eq_some.mp given
    exact ⟨names ▸ by cases x <;> decide, inside⟩
  · obtain ⟨x, names⟩ : ∃ x, panelOfByte f.home = some x := by
      refine Option.ne_none_iff_exists'.mp fun absent => ?_
      have := panelOfByte_eq_none.mp absent
      omega
    exact ⟨(x, _), homeGroup_eq_some.mpr ⟨panelOfByte_eq_some.mp names, rfl, inside⟩⟩

theorem guestGroup_eq_none : guestGroup f = none ↔
    ¬ (f.guestPresent.toNat = 0 ∨ (f.guestPresent.toNat = 1 ∧ f.gx.toNat < 1200 ∧ f.gy.toNat < 1680)) := by
  refine Option.eq_none_iff_not ?_
  simp only [guestGroup_eq_some, exists_or, exists_and_left, exists_eq, exists_eq_left, and_true]

theorem spanGroup_eq_none : spanGroup f = none ↔
    ¬ (f.spanPresent.toNat = 0 ∨ (f.spanPresent.toNat = 1 ∧ f.px.toNat < 2400 ∧ f.py.toNat < 1680)) := by
  refine Option.eq_none_iff_not ?_
  simp only [spanGroup_eq_some, exists_or, exists_and_left, exists_eq, exists_eq_left, and_true]

theorem styleGroup_eq_none : styleGroup f = none ↔
    ¬ (f.priority.toNat ≤ 7 ∧ f.fit.toNat ≤ 2 ∧ f.visibility.toNat < 64) := by
  refine Option.eq_none_iff_not ⟨?_, fun ⟨rank, mode, small⟩ => ?_⟩
  · rintro ⟨⟨priority, fit, visibility⟩, given⟩
    obtain ⟨names, rank, sees⟩ := styleGroup_eq_some.mp given
    have := priority.isLt
    have := visibility.isLt
    exact ⟨by omega, names ▸ by cases fit <;> decide, by omega⟩
  · obtain ⟨fit, names⟩ : ∃ fit, fitOfByte f.fit = some fit := by
      refine Option.ne_none_iff_exists'.mp fun absent => ?_
      have := fitOfByte_eq_none.mp absent
      omega
    refine ⟨(⟨f.priority.toNat, by omega⟩, fit, f.visibility.setWidth 6), styleGroup_eq_some.mpr
      ⟨fitOfByte_eq_some.mp names, rfl, ?_⟩⟩
    simp
    omega

/-! ## The entry that ENTRY BIND carries (R56) -/

theorem entryOf_eq_some {e : Entry} : entryOf f = some e ↔
    sourceGroup f = some e.source ∧ homeGroup f = some (e.home, e.homeAt) ∧ guestGroup f = some e.guestAt ∧
      spanGroup f = some e.spanAt ∧ styleGroup f = some (e.priority, e.fit, e.visibility) ∧ e.tag = f.tag := by
  simp only [entryOf, Option.bind_eq_bind, Option.bind_eq_some_iff, Option.pure_def, Option.some.injEq]
  constructor
  · rintro ⟨source, hs, ⟨home, homeAt⟩, hh, guest, hg, span, hp, ⟨priority, fit, visibility⟩, ht, rfl⟩
    exact ⟨hs, hh, hg, hp, ht, rfl⟩
  · rintro ⟨hs, hh, hg, hp, ht, tag⟩
    exact ⟨_, hs, _, hh, _, hg, _, hp, _, ht, by rw [← tag]⟩

theorem entryOf_eq_none : entryOf f = none ↔
    sourceGroup f = none ∨ homeGroup f = none ∨ guestGroup f = none ∨ spanGroup f = none ∨ styleGroup f = none := by
  simp only [entryOf, Option.bind_eq_bind, Option.bind_eq_none_iff, Option.pure_def]
  cases sourceGroup f <;> cases homeGroup f <;> cases guestGroup f <;> cases spanGroup f <;> cases styleGroup f <;> simp

/-- A valid origin lies inside its area. -/
theorem originGroup_inside {b : Byte} {x y : Half} {width : Nat} {g : Option Point}
    (given : originGroup b x y width = some g) : ∀ p ∈ g, p.Inside width := by
  rcases originGroup_eq_some.mp given with ⟨-, rfl⟩ | ⟨-, rfl, inside⟩
  · simp
  · simpa [Point.Inside] using inside

theorem entryOf_valid {e : Entry} (given : entryOf f = some e) : e.valid = true := by
  obtain ⟨source, home, guest, span, -, -⟩ := entryOf_eq_some.mp given
  exact Entry.valid_iff.mpr ⟨(sourceGroup_eq_some.mp source).2, (homeGroup_eq_some.mp home).2.2,
    originGroup_inside guest, originGroup_inside span⟩

end

/-! ## The lowest FREE handle (R56) -/

theorem Table.lowestFree_eq_none {t : Table} (taken : ∀ h, t.status h ≠ .free) : t.lowestFree = none := by
  simp only [Table.lowestFree, List.find?_eq_none, decide_eq_true_eq]
  exact fun h _ => taken h

theorem Table.lowestFree_eq_some {t : Table} {h : Handle} (free : t.status h = .free)
    (lowest : ∀ k, k < h → t.status k ≠ .free) : t.lowestFree = some h := by
  simp only [Table.lowestFree, List.find?_eq_some_iff_getElem, decide_eq_true_eq]
  refine ⟨free, h.val, by simp [handles], by simp [handles], fun j below => ?_⟩
  simpa [handles] using lowest ⟨j, below.trans h.isLt⟩ below

/-! ## ENTRY BIND -/

section
variable {s : State} {f : RawEntry} {e : Entry} (opened : s.portOpen = true)
include opened

theorem execEntryBind_range (invalid : entryOf f = none) : execEntryBind f s = .next (s.hold ⟨.range, []⟩) := by
  simp only [execEntryBind, State.onCommand_open opened, invalid, refuse_fst, refuse_snd]

theorem execEntryBind_exhausted (given : entryOf f = some e) (taken : ∀ h, s.table.status h ≠ .free) :
    execEntryBind f s = .next (s.hold ⟨.exhausted, []⟩) := by
  simp only [execEntryBind, State.onCommand_open opened, given, Table.lowestFree_eq_none taken, refuse_fst, refuse_snd]

theorem execEntryBind_done {h : Handle} (given : entryOf f = some e) (free : s.table.status h = .free)
    (lowest : ∀ k, k < h → s.table.status k ≠ .free) :
    execEntryBind f s =
      .next ((s.withDraft (s.table.draft.set h (some e))).hold ⟨.done, [BitVec.ofNat 8 h.val]⟩) := by
  simp only [execEntryBind, State.onCommand_open opened, given, Table.lowestFree_eq_some free lowest, done_fst, done_snd,
    State.setDraft_eq_withDraft]
  rfl

end

/-! ## ENTRY SET (R58) -/

section
variable {α β : Type} {selected : Bool} {value : Option α} {put : α → Entry → Entry} {e e' : Entry}

theorem writeGroup_eq_none : writeGroup selected value put e = none ↔ selected = true ∧ value = none := by
  cases selected <;> simp [writeGroup]

/-- A field that the group does not hold is kept. -/
theorem writeGroup_keeps (write : writeGroup selected value put e = some e') (field : Entry → β)
    (keeps : ∀ v e, field (put v e) = field e := by exact fun _ _ => rfl) : field e' = field e := by
  cases selected with
  | false => exact congrArg field (Option.some.inj write).symm
  | true =>
    obtain ⟨v, -, rfl⟩ := Option.map_eq_some_iff.mp write
    exact keeps v e

/-- The group's own field is the value sent when the group is selected, and else kept. -/
theorem writeGroup_gives (write : writeGroup selected value put e = some e') (field : Entry → α)
    (reads : ∀ v e, field (put v e) = v := by exact fun _ _ => rfl) :
    if selected then value = some (field e') else field e' = field e := by
  cases selected with
  | false => exact congrArg field (Option.some.inj write).symm
  | true =>
    obtain ⟨v, given, rfl⟩ := Option.map_eq_some_iff.mp write
    rw [if_pos rfl, reads, given]

end

section
variable {f : RawEntry} {selection : Byte} {e e' : Entry}

/-- What ENTRY SET leaves of an entry: each selected group as sent, the others kept. -/
theorem setGroups_writes (set : setGroups f selection e = some e') :
    let pick := fun (n : Nat) => selection.getLsbD n
    (if pick 0 then sourceGroup f = some e'.source else e'.source = e.source) ∧
    (if pick 1 then homeGroup f = some (e'.home, e'.homeAt) else e'.home = e.home ∧ e'.homeAt = e.homeAt) ∧
    (if pick 2 then guestGroup f = some e'.guestAt else e'.guestAt = e.guestAt) ∧
    (if pick 3 then spanGroup f = some e'.spanAt else e'.spanAt = e.spanAt) ∧
    (if pick 4 then styleGroup f = some (e'.priority, e'.fit, e'.visibility)
      else e'.priority = e.priority ∧ e'.fit = e.fit ∧ e'.visibility = e.visibility) ∧
    (if pick 5 then e'.tag = f.tag else e'.tag = e.tag) := by
  intro pick
  simp only [setGroups, Option.bind_eq_bind] at set
  split at set
  · cases set
  simp only [Option.bind_eq_some_iff] at set
  obtain ⟨e1, source, e2, home, e3, guest, e4, span, e5, style, tag⟩ := set
  refine ⟨?_, ?_, ?_, ?_, ?_, ?_⟩
  · rw [writeGroup_keeps tag Entry.source, writeGroup_keeps style Entry.source, writeGroup_keeps span Entry.source,
      writeGroup_keeps guest Entry.source, writeGroup_keeps home Entry.source]
    exact writeGroup_gives source Entry.source
  · let field := fun e : Entry => (e.home, e.homeAt)
    have kept : field e' = field e2 := by
      rw [writeGroup_keeps tag field, writeGroup_keeps style field, writeGroup_keeps span field,
        writeGroup_keeps guest field]
    have gives := writeGroup_gives home field
    rw [← kept, writeGroup_keeps source field] at gives
    simpa only [field, Prod.mk.injEq] using gives
  · rw [writeGroup_keeps tag Entry.guestAt, writeGroup_keeps style Entry.guestAt, writeGroup_keeps span Entry.guestAt,
      ← writeGroup_keeps source Entry.guestAt, ← writeGroup_keeps home Entry.guestAt]
    exact writeGroup_gives guest Entry.guestAt
  · rw [writeGroup_keeps tag Entry.spanAt, writeGroup_keeps style Entry.spanAt, ← writeGroup_keeps source Entry.spanAt,
      ← writeGroup_keeps home Entry.spanAt, ← writeGroup_keeps guest Entry.spanAt]
    exact writeGroup_gives span Entry.spanAt
  · let field := fun e : Entry => (e.priority, e.fit, e.visibility)
    have kept : field e4 = field e := by
      rw [writeGroup_keeps span field, writeGroup_keeps guest field, writeGroup_keeps home field,
        writeGroup_keeps source field]
    have gives := writeGroup_gives style field
    rw [kept, ← writeGroup_keeps tag field] at gives
    simpa only [field, Prod.mk.injEq] using gives
  · have kept : e5.tag = e.tag := by
      rw [writeGroup_keeps style Entry.tag, writeGroup_keeps span Entry.tag, writeGroup_keeps guest Entry.tag,
        writeGroup_keeps home Entry.tag, writeGroup_keeps source Entry.tag]
    simpa only [kept, Option.some.injEq, eq_comm (a := f.tag)] using writeGroup_gives tag Entry.tag

/-- A selected group that is invalid, or a selection bit above 5, refuses the whole of ENTRY SET. -/
theorem setGroups_eq_none : setGroups f selection e = none ↔
    64 ≤ selection.toNat ∨ (selection.getLsbD 0 = true ∧ sourceGroup f = none) ∨
      (selection.getLsbD 1 = true ∧ homeGroup f = none) ∨ (selection.getLsbD 2 = true ∧ guestGroup f = none) ∨
      (selection.getLsbD 3 = true ∧ spanGroup f = none) ∨ (selection.getLsbD 4 = true ∧ styleGroup f = none) := by
  have group : ∀ {α : Type} (selected : Bool) (value : Option α) (put : α → Entry → Entry) (rest : Entry → Option Entry)
      (refused : Prop), (∀ e, rest e = none ↔ refused) → ∀ e,
        (writeGroup selected value put e).bind rest = none ↔ (selected = true ∧ value = none) ∨ refused := by
    intro α selected value put rest refused others e
    rw [← writeGroup_eq_none (put := put) (e := e)]
    cases writeGroup selected value put e <;> simp [others]
  simp only [setGroups, Option.bind_eq_bind]
  split
  · simp [*]
  · have inRange : ¬ 64 ≤ selection.toNat := ‹_›
    simp only [inRange, false_or]
    refine group _ _ _ _ _ (fun e => group _ _ _ _ _ (fun e => group _ _ _ _ _ (fun e => group _ _ _ _ _ (fun e => ?_) e) e) e) e
    refine (group _ _ _ _ False (fun e => ?_) e).trans (iff_of_eq (or_false _))
    simp [writeGroup_eq_none]

/-- ENTRY SET keeps the checks of R51. -/
theorem setGroups_valid (set : setGroups f selection e = some e') (valid : e.valid = true) : e'.valid = true := by
  obtain ⟨source, home, guest, span, -, -⟩ := setGroups_writes set
  obtain ⟨sourceOk, homeOk, guestOk, spanOk⟩ := Entry.valid_iff.mp valid
  refine Entry.valid_iff.mpr ⟨?_, ?_, ?_, ?_⟩
  · split at source
    · exact (sourceGroup_eq_some.mp source).2
    · exact source ▸ sourceOk
  · split at home
    · exact (homeGroup_eq_some.mp home).2.2
    · exact home.2 ▸ homeOk
  · split at guest
    · exact originGroup_inside guest
    · exact guest ▸ guestOk
  · split at span
    · exact originGroup_inside span
    · exact span ▸ spanOk

end

/-! ## ENTRY SET, the command -/

section
variable {s : State} {b selection : Byte} {f : RawEntry} {h : Handle} {e e' : Entry} (opened : s.portOpen = true)
include opened

theorem execEntrySet_range (above : 31 < b.toNat) : execEntrySet b selection f s = .next (s.hold ⟨.range, []⟩) := by
  simp only [execEntrySet, State.onCommand_open opened, handleOfByte_of_gt above, refuse_fst, refuse_snd]

theorem execEntrySet_absent (names : b.toNat = h.val) (absent : s.table.draft[h] = none) :
    execEntrySet b selection f s = .next (s.hold ⟨.absent, []⟩) := by
  simp only [execEntrySet, State.onCommand_open opened, handleOfByte_of_eq names, absent, refuse_fst, refuse_snd]

theorem execEntrySet_invalid (names : b.toNat = h.val) (held : s.table.draft[h] = some e)
    (invalid : setGroups f selection e = none) : execEntrySet b selection f s = .next (s.hold ⟨.range, []⟩) := by
  simp only [execEntrySet, State.onCommand_open opened, handleOfByte_of_eq names, held, invalid, refuse_fst, refuse_snd]

theorem execEntrySet_done (names : b.toNat = h.val) (held : s.table.draft[h] = some e)
    (set : setGroups f selection e = some e') :
    execEntrySet b selection f s = .next ((s.withDraft (s.table.draft.set h (some e'))).hold ⟨.done, []⟩) := by
  simp only [execEntrySet, State.onCommand_open opened, handleOfByte_of_eq names, held, set, done_fst, done_snd,
    State.setDraft_eq_withDraft]

end

end Sys2Proof.Machine

open Sys2Proof Sys2Proof.Machine

/-- Settles O28: the outcome goes by the entry that the fields make and the lowest FREE handle; each group by the checks of
R51. -/
theorem entryBindGivesTheLowestFreeHandle : Obligations.EntryBindGivesTheLowestFreeHandle := by
  unfold Obligations.EntryBindGivesTheLowestFreeHandle
  intro f s opened
  refine ⟨execEntryBind_range opened, fun e => execEntryBind_exhausted opened,
    fun e h => execEntryBind_done opened, fun e given => ?_, ?_⟩
  · obtain ⟨source, home, guest, span, style, tag⟩ := entryOf_eq_some.mp given
    obtain ⟨homeNames, homeAt, -⟩ := homeGroup_eq_some.mp home
    obtain ⟨fitNames, rank, sees⟩ := styleGroup_eq_some.mp style
    refine ⟨entryOf_valid given, tag, (sourceGroup_eq_some.mp source).1, ?_, homeAt, ?_, ?_, rank, sees, ?_⟩
    · rw [homeNames]
      cases e.home <;> rfl
    · rcases guestGroup_eq_some.mp guest with ⟨absent, given⟩ | ⟨present, given, -⟩
      · simp [absent, given]
      · simp [present, given]
    · rcases spanGroup_eq_some.mp span with ⟨absent, given⟩ | ⟨present, given, -⟩
      · simp [absent, given]
      · simp [present, given]
    · rw [fitNames]
      cases e.fit <;> rfl
  · intro n source home guest span style
    have sourceNone : sourceGroup f = none ↔ ¬ source := sourceGroup_eq_none
    have homeNone : homeGroup f = none ↔ ¬ home := homeGroup_eq_none
    have guestNone : guestGroup f = none ↔ ¬ guest := guestGroup_eq_none
    have spanNone : spanGroup f = none ↔ ¬ span := spanGroup_eq_none
    have styleNone : styleGroup f = none ↔ ¬ style := styleGroup_eq_none
    refine ⟨sourceNone, homeNone, guestNone, spanNone, styleNone, ?_⟩
    rw [entryOf_eq_none, sourceNone, homeNone, guestNone, spanNone, styleNone]
    simp only [not_and_or]

/-- Settles O29: the outcome goes by the handle, by DRAFT and by the selected groups, which are written one after the
other. -/
theorem entrySetWritesTheSelectedGroups : Obligations.EntrySetWritesTheSelectedGroups := by
  unfold Obligations.EntrySetWritesTheSelectedGroups
  intro b selection f s opened
  refine ⟨execEntrySet_range opened, fun h names => ⟨execEntrySet_absent opened names, fun e held => ?_⟩⟩
  intro pick invalid
  refine ⟨fun bad => execEntrySet_invalid opened names held (setGroups_eq_none.mpr bad), fun good => ?_⟩
  obtain ⟨e', set⟩ := Option.ne_none_iff_exists'.mp (mt setGroups_eq_none.mp good)
  exact ⟨e', execEntrySet_done opened names held set, setGroups_writes set⟩

end

section
/-! PROOFS. What commands and events do to the Placement Table and to the Frame Store (chapters 3 and 4), said once for
each; that they keep both sound (O57); and publishing, binding and the handle status (O27, O31, O32). -/

namespace Sys2Proof.Machine

/-! ## A reset -/

/-- The two commands that put a block back to its reset state. -/
def isReset (c : Instr) : Prop := c = .softReset ∨ ∃ n, c = .pinReset n

/-- A pin reset pulse is ignored, or puts every block in its reset state; only the count of short pulses goes its own way. -/
theorem execPinReset_next {n : Nat} {s t : State} (h : execPinReset n s = .next t) :
    ∃ k, t = { s with shortPulses := k } ∨ t = ({ s with shortPulses := k } : State).pinReset := by
  simp only [execPinReset, Host.Outcome.next.injEq] at h
  subst h
  split <;> [skip; split <;> [split; skip]]
  · exact ⟨s.shortPulses, .inl rfl⟩
  · exact ⟨s.shortPulses + 1, .inr rfl⟩
  · exact ⟨s.shortPulses + 1, .inl rfl⟩
  · exact ⟨s.shortPulses, .inr rfl⟩

/-- SOFT RESET is ignored with the port closed, and else resets every block. -/
theorem execSoftReset_next {s t : State} (h : execSoftReset s = .next t) :
    t = s.droveLow ∨ t = s.softReset.hold ⟨.done, []⟩ := by
  rcases State.onCommand_next h with ⟨-, rfl⟩ | ⟨-, rfl⟩
  · exact .inl rfl
  · exact .inr rfl

/-! ## An output frame start (R75, R89, R170) -/

/-- The part after an output frame start: blanking ends for the panel links, the banks and the period go on, and the frame
is composed. -/
def State.frameStarted (s : State) : State :=
  let t := s.reach (s.frame.periodStart + s.frame.rate.period)
  let t := { t with panelA := t.panelA.blankingEnds, panelB := t.panelB.blankingEnds }
  t.frameOut.compose

theorem execOutputFrameStart_next {s t : State} (h : execOutputFrameStart s = .next t) :
    (s.inReset = true ∧ t = s) ∨ (s.inReset = false ∧ t = s.frameStarted) :=
  State.onEvent_next h

/-- The moment of the output frame start: the end of the period, or now when that has passed. -/
def State.frameStart (s : State) : Nat := max s.now (s.frame.periodStart + s.frame.rate.period)

theorem State.frameStarted_table (s : State) :
    s.frameStarted.table = if s.frame.captureState.isComplete then s.table.flip else s.table := by
  simp only [State.frameStarted]
  rw [State.compose_frame, State.frameOut_frame]
  rfl

theorem State.frameStarted_frame (s : State) : s.frameStarted.frame = s.frame.frameOut.beginPeriod s.frameStart := by
  simp only [State.frameStarted]
  rw [State.compose_frame, State.frameOut_frame]
  rfl

theorem State.frameStarted_posture (s : State) : s.frameStarted.posture = s.posture := by
  simp only [State.frameStarted]
  rw [State.compose_frame, State.frameOut_frame]
  rfl

theorem State.frameStarted_now (s : State) : s.frameStarted.now = s.frameStart := by
  simp only [State.frameStarted]
  rw [State.compose_frame, State.frameOut_frame]
  rfl

theorem State.frameStarted_panel (s : State) (x : Panel) :
    s.frameStarted.panel x = (s.panel x).blankingEnds.beginFrame := by
  simp only [State.frameStarted]
  rw [State.compose_frame, State.frameOut_frame]
  cases x <;> rfl

/-- What the composition at an output frame start reads: SHOWN after the flip. -/
def State.frameScene (s : State) : Scene :=
  { s.scene with shown := (if s.frame.captureState.isComplete then s.table.flip else s.table).shown }

@[simp] theorem PanelUnit.blankingEnds_state (u : PanelUnit) : u.blankingEnds.state = u.state := by
  rw [PanelUnit.blankingEnds_frame]

theorem State.frameStarted_comp (s : State) : s.frameStarted.comp = s.comp.after s.frameScene := by
  simp only [State.frameStarted]
  rw [State.compose_frame, State.frameOut_frame]
  simp only [State.frameScene, State.scene, PanelUnit.blankingEnds_state]
  rfl

/-! ## The Placement Table -/

/-- What a command or event can make of the Placement Table. -/
inductive TableStep (c : Instr) (b : Table) : Table → Prop
  | stands : TableStep c b b
  | bound {f : RawEntry} {e : Entry} {h : Handle} (command : c = .entryBind f) (given : entryOf f = some e) :
      TableStep c b { b with draft := b.draft.set h (some e) }
  | written {byte selection : Byte} {f : RawEntry} {h : Handle} {e e' : Entry}
      (command : c = .entrySet byte selection f) (held : b.draft[h] = some e) (set : setGroups f selection e = some e') :
      TableStep c b { b with draft := b.draft.set h (some e') }
  | retired {byte : Byte} {h : Handle} (command : c = .entryRetire byte) :
      TableStep c b { b with draft := b.draft.set h none }
  | tagRetired {tag : Half} (command : c = .tagRetire tag) : TableStep c b { b with draft := b.draft.withoutTag tag }
  | published (command : c = .tablePublish) : TableStep c b b.publish
  | reverted (command : c = .draftRevert) : TableStep c b { b with draft := b.revertSource.view }
  | captured (command : c = .sourceFrameStart) : TableStep c b b.bind
  | flipped (command : c = .outputFrameStart) : TableStep c b b.flip
  | reset (command : isReset c) : TableStep c b Table.reset

theorem TableStep.of_eq {c : Instr} {b b' : Table} (e : b' = b) : TableStep c b b' := e ▸ .stands

section
variable {s t : State} {P : Table → Prop}

/-- A command's effect on the table: none with the port closed, else that of its work. -/
theorem State.onCommand_table {work : State → State × Reply} (h : s.onCommand work = .next t) (stands : P s.table)
    (works : P (work s).1.table) : P t.table := by
  rcases State.onCommand_next h with ⟨-, rfl⟩ | ⟨-, rfl⟩
  · exact stands
  · exact works

theorem execEntryBind_table {f : RawEntry} (h : execEntryBind f s = .next t) :
    TableStep (.entryBind f) s.table t.table := by
  refine State.onCommand_table h .stands ?_
  split
  · exact .stands
  · next e given =>
    split
    · exact .stands
    · exact .bound rfl given

theorem execEntrySet_table {b sel : Byte} {f : RawEntry} (h : execEntrySet b sel f s = .next t) :
    TableStep (.entrySet b sel f) s.table t.table := by
  refine State.onCommand_table h .stands ?_
  split
  · exact .stands
  · split
    · exact .stands
    · next e held =>
      split
      · exact .stands
      · next e' set => exact .written rfl held set

theorem execEntryRetire_table {b : Byte} (h : execEntryRetire b s = .next t) :
    TableStep (.entryRetire b) s.table t.table := by
  refine State.onCommand_table h .stands ?_
  split <;> [skip; split]
  · exact .stands
  · exact .retired rfl
  · exact .stands

theorem execOutputFrameStart_table (h : execOutputFrameStart s = .next t) :
    TableStep .outputFrameStart s.table t.table := by
  rcases execOutputFrameStart_next h with ⟨-, rfl⟩ | ⟨-, rfl⟩
  · exact .stands
  · rw [State.frameStarted_table]
    split
    · exact .flipped rfl
    · exact .stands

theorem execSourceFrameStart_table (h : execSourceFrameStart s = .next t) :
    TableStep .sourceFrameStart s.table t.table := by
  rcases State.onEvent_next h with ⟨-, rfl⟩ | ⟨-, rfl⟩
  · exact .stands
  · rw [State.raiseIf_table]
    exact .captured rfl

theorem execTagRetire_table {tag : Half} (h : execTagRetire tag s = .next t) :
    TableStep (.tagRetire tag) s.table t.table :=
  State.onCommand_table h .stands (.tagRetired rfl)

theorem execTablePublish_table (h : execTablePublish s = .next t) : TableStep .tablePublish s.table t.table :=
  State.onCommand_table h .stands (.published rfl)

theorem execDraftRevert_table (h : execDraftRevert s = .next t) : TableStep .draftRevert s.table t.table :=
  State.onCommand_table h .stands (.reverted rfl)

end

theorem exec_table {c : Instr} {s t : State} (h : exec c s = .next t) : TableStep c s.table t.table := by
  cases c
  case entryBind f => exact execEntryBind_table h
  case entrySet b sel f => exact execEntrySet_table h
  case entryRetire b => exact execEntryRetire_table h
  case tagRetire tag => exact execTagRetire_table h
  case tablePublish => exact execTablePublish_table h
  case draftRevert => exact execDraftRevert_table h
  case sourceFrameStart => exact execSourceFrameStart_table h
  case outputFrameStart => exact execOutputFrameStart_table h
  case softReset =>
    rcases execSoftReset_next h with rfl | rfl
    · exact .stands
    · exact .reset (.inl rfl)
  case pinReset n =>
    obtain ⟨k, rfl | rfl⟩ := execPinReset_next h
    · exact .stands
    · exact .reset (.inr ⟨n, rfl⟩)
  all_goals exact .of_eq (exec_same h .table rfl)

/-! ## The table stays sound (R51, R79, R80) -/

/-- Every view valid, the register the latest publish. -/
def Table.Sound (b : Table) : Prop :=
  b.draft.Valid ∧ (∀ p ∈ b.staged, p.view.Valid) ∧ b.capture.view.Valid ∧ b.shown.view.Valid ∧
    b.register = match b.staged with | some p => p.gen | none => b.capture.gen

theorem State.table_sound_iff {s : State} : s.table.Sound ↔ s.EntriesValid ∧ s.LatestPublished :=
  ⟨fun ⟨draft, staged, capture, shown, latest⟩ => ⟨⟨draft, staged, capture, shown⟩, latest⟩,
    fun ⟨⟨draft, staged, capture, shown⟩, latest⟩ => ⟨draft, staged, capture, shown, latest⟩⟩

theorem View.empty_valid : View.empty.Valid := by
  intro h e held
  simp [View.empty] at held

theorem View.valid_set {v : View} (valid : v.Valid) (h : Handle) {o : Option Entry} (entry : ∀ e ∈ o, e.valid = true) :
    View.Valid (v.set h o) := by
  intro k e held
  by_cases same : h.val = k.val
  · exact entry e (by simpa [same] using held)
  · exact valid k e (by simpa [Vector.getElem_set, same] using held)

theorem View.valid_withoutTag {v : View} (valid : v.Valid) (tag : Half) : (v.withoutTag tag).Valid := by
  intro k e held
  rw [View.withoutTag_getElem] at held
  split at held
  · cases held
  · exact valid k e held

theorem Table.reset_sound : Table.reset.Sound :=
  ⟨View.empty_valid, nofun, View.empty_valid, View.empty_valid, rfl⟩

theorem TableStep.keeps_sound {c : Instr} {b b' : Table} (step : TableStep c b b') (sound : b.Sound) : b'.Sound := by
  have whole := sound
  obtain ⟨draft, staged, capture, shown, latest⟩ := sound
  cases step with
  | stands => exact whole
  | bound command given =>
    refine ⟨View.valid_set draft _ ?_, staged, capture, shown, latest⟩
    rintro _ ⟨⟩
    exact entryOf_valid given
  | written command held set =>
    refine ⟨View.valid_set draft _ ?_, staged, capture, shown, latest⟩
    rintro _ ⟨⟩
    exact setGroups_valid set (draft _ _ held)
  | retired => exact ⟨View.valid_set draft _ nofun, staged, capture, shown, latest⟩
  | tagRetired => exact ⟨View.valid_withoutTag draft _, staged, capture, shown, latest⟩
  | published => exact ⟨draft, by rintro _ ⟨⟩; exact draft, capture, shown, rfl⟩
  | reverted =>
    refine ⟨?_, staged, capture, shown, latest⟩
    simp only [Table.revertSource]
    cases held : b.staged with
    | none => exact capture
    | some p => exact staged p held
  | captured =>
    cases held : b.staged with
    | none => rwa [Table.bind, held]
    | some p =>
      simp only [Table.bind, held]
      exact ⟨draft, nofun, staged p held, shown, by simpa only [held] using latest⟩
  | flipped => exact ⟨draft, staged, capture, capture, latest⟩
  | reset => exact Table.reset_sound

/-! ## The Frame Store -/

/-- What a command or event can make of the Frame Store. -/
inductive FrameStep (c : Instr) (f : FrameStore) : FrameStore → Prop
  | stands : FrameStep c f f
  | started (command : c = .sourceFrameStart) : FrameStep c f f.frameStart
  | lineEnded {n : BitVec 12} {px : List Colour} (command : c = .lineEnd n px) : FrameStep c f (f.lineEnd n.toNat px)
  | completed {lines : Nat} {bad : Bool} (command : c = .sourceFrameEnd) (filling : f.captureState = .filling lines bad) :
      FrameStep c f { f with captureState := .complete }
  | discarded {lines : Nat} {bad : Bool} (command : c = .sourceFrameEnd) (filling : f.captureState = .filling lines bad) :
      FrameStep c f { f with captureState := .empty, malformed := Count.bump f.malformed }
  | shown (command : c = .outputFrameStart) (now : Nat) : FrameStep c f (f.frameOut.beginPeriod now)
  | pulseEnded (command : c = .frmreqPulseEnd) : FrameStep c f { f with frmreq := none }
  | timed {b : Byte} (command : c = .timingSet b) (rate : FrameRate) (now : Nat) :
      FrameStep c f { f with rate := rate, periodStart := now }
  | released {straps : Straps} (command : c = .resetnRelease straps) (now : Nat) :
      FrameStep c f { f with periodStart := now }
  | reset (command : isReset c) (now : Nat) : FrameStep c f (FrameStore.reset now)

theorem FrameStep.of_eq {c : Instr} {f f' : FrameStore} (e : f' = f) : FrameStep c f f' := e ▸ .stands

section
variable {s t : State}

theorem execSourceFrameEnd_frame (h : execSourceFrameEnd s = .next t) : FrameStep .sourceFrameEnd s.frame t.frame := by
  rcases State.onEvent_next h with ⟨-, rfl⟩ | ⟨-, rfl⟩
  · exact .stands
  · split
    · next filling =>
      split
      · exact .completed rfl filling
      · exact .discarded rfl filling
    · exact .stands

theorem execFrmreqPulseEnd_frame (h : execFrmreqPulseEnd s = .next t) : FrameStep .frmreqPulseEnd s.frame t.frame := by
  rcases State.onEvent_next h with ⟨-, rfl⟩ | ⟨-, rfl⟩
  · exact .stands
  · split
    · exact .pulseEnded rfl
    · exact .stands

theorem execLineEnd_frame {n : BitVec 12} {px : List Colour} (h : execLineEnd n px s = .next t) :
    FrameStep (.lineEnd n px) s.frame t.frame := by
  rcases State.onEvent_next h with ⟨-, rfl⟩ | ⟨-, rfl⟩
  · exact .stands
  · exact .lineEnded rfl

theorem execSourceFrameStart_frame (h : execSourceFrameStart s = .next t) :
    FrameStep .sourceFrameStart s.frame t.frame := by
  rcases State.onEvent_next h with ⟨-, rfl⟩ | ⟨-, rfl⟩
  · exact .stands
  · rw [State.raiseIf_frame]
    exact .started rfl

theorem execOutputFrameStart_frame (h : execOutputFrameStart s = .next t) :
    FrameStep .outputFrameStart s.frame t.frame := by
  rcases execOutputFrameStart_next h with ⟨-, rfl⟩ | ⟨-, rfl⟩
  · exact .stands
  · exact s.frameStarted_frame ▸ .shown rfl _

theorem execTimingSet_frame {b : Byte} (h : execTimingSet b s = .next t) :
    FrameStep (.timingSet b) s.frame t.frame := by
  rcases State.onCommand_next h with ⟨-, rfl⟩ | ⟨-, rfl⟩
  · exact .stands
  · split <;> [skip; split]
    · exact .stands
    · exact .timed rfl _ _
    · exact .stands

theorem execResetnRelease_frame {straps : Straps} (h : execResetnRelease straps s = .next t) :
    FrameStep (.resetnRelease straps) s.frame t.frame := by
  simp only [execResetnRelease, Host.Outcome.next.injEq] at h
  subst h
  split
  · exact .released rfl _
  · exact .stands

end

theorem exec_frame {c : Instr} {s t : State} (h : exec c s = .next t) : FrameStep c s.frame t.frame := by
  cases c
  case sourceFrameStart => exact execSourceFrameStart_frame h
  case lineEnd n px => exact execLineEnd_frame h
  case sourceFrameEnd => exact execSourceFrameEnd_frame h
  case outputFrameStart => exact execOutputFrameStart_frame h
  case frmreqPulseEnd => exact execFrmreqPulseEnd_frame h
  case timingSet b => exact execTimingSet_frame h
  case resetnRelease straps => exact execResetnRelease_frame h
  case softReset =>
    rcases execSoftReset_next h with rfl | rfl
    · exact .stands
    · exact .reset (.inl rfl) _
  case pinReset n =>
    obtain ⟨k, rfl | rfl⟩ := execPinReset_next h
    · exact .stands
    · exact .reset (.inr ⟨n, rfl⟩) _
  all_goals exact .of_eq (exec_same h .frame rfl)

/-! ## The banks stay sound (R71) -/

/-- Both banks in form inside the canvas, a frame in progress of at most 1680 lines. -/
def FrameStore.Sound (f : FrameStore) : Prop :=
  Bank.Sound f.scan ∧ Bank.Sound f.capture ∧ ∀ n ∈ f.captureState.lines?, n ≤ 1680

theorem State.frame_sound_iff {s : State} : s.frame.Sound ↔ s.BanksSound := Iff.rfl

theorem Bank.row_length_le {b : Bank} (short : ∀ e ∈ b, e.2.length ≤ 2400) (r : Nat) : (Bank.row b r).length ≤ 2400 := by
  induction b with
  | nil => simp [Bank.row]
  | cons e rest ih =>
    obtain ⟨k, px⟩ := e
    simp only [Bank.row]
    split
    · exact short (k, px) (by simp)
    · exact ih fun e listed => short e (by simp [listed])

theorem Bank.storeLine_sound {b : Bank} (sound : b.Sound) {r : Nat} (inCanvas : r < 1680) (count : Nat)
    (pixels : List Colour) : Bank.Sound (Bank.storeLine r count pixels b) := by
  obtain ⟨wf, within⟩ := sound
  refine ⟨Bank.wf_storeLine wf r count pixels, fun e listed => ?_⟩
  rcases Bank.mem_setRow listed with ⟨rfl, -⟩ | listed
  · exact ⟨inCanvas, lineOver_length_le _ _ _ (Bank.row_length_le (fun e listed => (within e listed).2) r)⟩
  · exact within e listed

theorem FrameStore.lineEnd_sound {f : FrameStore} (sound : f.Sound) (count : Nat) (pixels : List Colour) :
    (f.lineEnd count pixels).Sound := by
  have whole := sound
  obtain ⟨scan, capture, lines⟩ := sound
  unfold FrameStore.lineEnd
  split
  · next n bad filling =>
    have few : n ≤ 1680 := lines n (by simp [filling, CaptureBank.lines?])
    split
    · next room =>
      refine ⟨scan, Bank.storeLine_sound capture room count pixels, ?_⟩
      rintro _ ⟨⟩
      exact room
    · refine ⟨scan, capture, ?_⟩
      rintro _ ⟨⟩
      exact few
  · exact whole

theorem FrameStore.frameStart_sound {f : FrameStore} (sound : f.Sound) : f.frameStart.Sound := by
  obtain ⟨scan, capture, -⟩ := sound
  have fresh : ∀ n ∈ (CaptureBank.filling 0 false).lines?, n ≤ 1680 := by
    rintro _ ⟨⟩
    exact Nat.zero_le _
  unfold FrameStore.frameStart
  split <;> exact ⟨scan, capture, fresh⟩

theorem FrameStore.frameOut_sound {f : FrameStore} (sound : f.Sound) : f.frameOut.Sound := by
  have whole := sound
  obtain ⟨scan, capture, lines⟩ := sound
  unfold FrameStore.frameOut
  split
  · exact ⟨capture, scan, nofun⟩
  · exact whole
  · exact whole

theorem FrameStore.reset_sound (now : Nat) : (FrameStore.reset now).Sound :=
  ⟨⟨rfl, nofun⟩, ⟨rfl, nofun⟩, nofun⟩

theorem FrameStep.keeps_sound {c : Instr} {f f' : FrameStore} (step : FrameStep c f f') (sound : f.Sound) : f'.Sound := by
  cases step with
  | stands => exact sound
  | started => exact FrameStore.frameStart_sound sound
  | lineEnded => exact FrameStore.lineEnd_sound sound _ _
  | completed | discarded => exact ⟨sound.1, sound.2.1, nofun⟩
  | shown => exact FrameStore.frameOut_sound sound
  | pulseEnded | timed | released => exact sound
  | reset => exact FrameStore.reset_sound _

end Sys2Proof.Machine

open Sys2Proof Sys2Proof.Machine

/-- Settles O57: each block's step, by what the command can make of it. -/
theorem stepKeepsTableAndBanks : Obligations.StepKeepsTableAndBanks := by
  unfold Obligations.StepKeepsTableAndBanks
  rintro s t ⟨entries, latest, banks⟩ h
  have sound : t.table.Sound ∧ t.frame.Sound := by
    refine step_keeps (P := fun s => s.table.Sound ∧ s.frame.Sound) (fun _ _ holds => holds) (fun _ _ holds => holds)
      (fun c s t holds h => ?_) ⟨State.table_sound_iff.mpr ⟨entries, latest⟩, banks⟩ h
    exact ⟨(exec_table h).keeps_sound holds.1, (exec_frame h).keeps_sound holds.2⟩
  obtain ⟨entries, latest⟩ := State.table_sound_iff.mp sound.1
  exact ⟨entries, latest, sound.2⟩

end

section
/-! PROOFS. Handle status, publishing and binding (chapters 3 and 4: O27, O31, O32), and the capture bank (chapter 4: O33). -/

namespace Sys2Proof.Machine

/-! ## Handle status (R54, R55) -/

section
variable {t : Table} {h : Handle}

theorem View.holds_iff {v : View} {h : Handle} : v.holds h = true ↔ v[h].isSome = true := Iff.rfl

theorem View.not_holds_iff {v : View} {h : Handle} : v.holds h = false ↔ v[h] = none := Option.isSome_eq_false_iff.trans Option.isNone_iff_eq_none

theorem Table.publishedHolds_iff : t.publishedHolds h = true ↔ t.InPublished h := by
  have staged : t.stagedHolds h = true ↔ ∃ p, t.staged = some p ∧ p.view[h].isSome = true := by
    unfold Table.stagedHolds
    cases t.staged <;> simp [View.holds]
  simp only [Table.publishedHolds, Bool.or_eq_true, staged, View.holds_iff, Table.InPublished, or_assoc]

theorem Table.status_eq : t.status h =
    if t.draft[h] = none then (if t.publishedHolds h then .retiring else .free)
    else (if t.shown.view[h] = none then .pending else .active) := by
  unfold Table.status View.holds
  by_cases draft : t.draft[h] = none <;> by_cases shown : t.shown.view[h] = none <;>
    simp [draft, shown, Option.isSome_iff_ne_none]

theorem Table.status_eq_free : t.status h = .free ↔ t.draft[h] = none ∧ ¬ t.InPublished h := by
  rw [Table.status_eq, ← Table.publishedHolds_iff]
  split <;> split <;> simp_all

theorem Table.status_eq_retiring : t.status h = .retiring ↔ t.draft[h] = none ∧ t.InPublished h := by
  rw [Table.status_eq, ← Table.publishedHolds_iff]
  split <;> split <;> simp_all

theorem Table.status_eq_pending : t.status h = .pending ↔ t.draft[h].isSome = true ∧ t.shown.view[h] = none := by
  rw [Table.status_eq, Option.isSome_iff_ne_none]
  split <;> split <;> simp_all

theorem Table.status_eq_active : t.status h = .active ↔ t.draft[h].isSome = true ∧ t.shown.view[h].isSome = true := by
  rw [Table.status_eq, Option.isSome_iff_ne_none, Option.isSome_iff_ne_none]
  split <;> split <;> simp_all

/-- A FREE handle is in no view. -/
theorem Table.free_iff : t.status h = .free ↔ t.draft[h] = none ∧ (∀ p, t.staged = some p → p.view[h] = none) ∧
    t.capture.view[h] = none ∧ t.shown.view[h] = none := by
  simp only [Table.status_eq_free, Table.InPublished, not_or, not_exists, not_and, Bool.not_eq_true,
    Option.isSome_eq_false_iff, Option.isNone_iff_eq_none]

theorem Table.publish_free (free : t.status h = .free) : t.publish.status h = .free := by
  obtain ⟨draft, -, capture, shown⟩ := Table.free_iff.mp free
  refine Table.free_iff.mpr ⟨draft, ?_, capture, shown⟩
  rintro _ ⟨⟩
  exact draft

theorem Table.bind_free (free : t.status h = .free) : t.bind.status h = .free := by
  obtain ⟨draft, staged, capture, shown⟩ := Table.free_iff.mp free
  cases held : t.staged with
  | none => rwa [Table.bind, held]
  | some p =>
    simp only [Table.bind, held]
    exact Table.free_iff.mpr ⟨draft, nofun, staged p held, shown⟩

theorem Table.flip_free (free : t.status h = .free) : t.flip.status h = .free := by
  obtain ⟨draft, staged, capture, shown⟩ := Table.free_iff.mp free
  exact Table.free_iff.mpr ⟨draft, staged, capture, capture⟩

end

/-! ## Publishing (R62, R79) -/

section
variable {s : State} (opened : s.portOpen = true)
include opened

theorem execTablePublish_done : execTablePublish s =
    .next (({ s with table := s.table.publish }).hold ⟨.done, byte4 s.table.publish.register.toNat⟩) :=
  State.onCommand_open opened _

theorem execDraftRevert_done {p : Published} (source : s.table.revertSource = p) :
    execDraftRevert s = .next ((s.withDraft p.view).hold ⟨.done, byte4 p.gen.toNat⟩) := by
  subst source
  exact State.onCommand_open opened _

end

/-! ## The source link (R71 to R73, R80) -/

section
variable {s : State} (running : s.inReset = false)
include running

theorem execSourceFrameStart_running : execSourceFrameStart s = .next
    (({ s with frame := s.frame.frameStart, table := s.table.bind }).raiseIf (!s.frame.captureState.isEmpty) .frameLoss) :=
  State.onEvent_running running _

theorem execLineEnd_running (count : BitVec 12) (px : List Colour) :
    execLineEnd count px s = .next { s with frame := s.frame.lineEnd count.toNat px } :=
  State.onEvent_running running _

theorem execSourceFrameEnd_whole (filling : s.frame.captureState = .filling 1680 false) :
    execSourceFrameEnd s = .next { s with frame := { s.frame with captureState := .complete } } := by
  simp only [execSourceFrameEnd, State.onEvent_running running, filling]
  rfl

theorem execSourceFrameEnd_damaged {n : Nat} {bad : Bool} (filling : s.frame.captureState = .filling n bad)
    (damaged : ¬ (n = 1680 ∧ bad = false)) : execSourceFrameEnd s = .next (({ s with frame := { s.frame with
      captureState := .empty, malformed := Count.bump s.frame.malformed } }).raise .frameLoss) := by
  simp only [execSourceFrameEnd, State.onEvent_running running, filling]
  exact congrArg Host.Outcome.next (if_neg damaged)

theorem execSourceFrameEnd_idle (idle : ∀ n bad, s.frame.captureState ≠ .filling n bad) :
    execSourceFrameEnd s = .next s := by
  simp only [execSourceFrameEnd, State.onEvent_running running]

end

section
variable {f : FrameStore} {n count : Nat} {bad : Bool} {px : List Colour}

theorem FrameStore.lineEnd_room (filling : f.captureState = .filling n bad) (room : n < frameLines) :
    f.lineEnd count px = { f with capture := f.capture.storeLine n count px,
                                  captureState := .filling (n + 1) (bad || decide (count ≠ linePixels)) } := by
  simp only [FrameStore.lineEnd, filling]
  exact if_pos room

theorem FrameStore.lineEnd_full (filling : f.captureState = .filling n bad) (full : frameLines ≤ n) :
    f.lineEnd count px = { f with captureState := .filling n true } := by
  simp only [FrameStore.lineEnd, filling]
  exact if_neg (Nat.not_lt.mpr full)

end

/-- Without a frame in progress a line is ignored. -/
theorem FrameStore.lineEnd_idle {f : FrameStore} (idle : ∀ n bad, f.captureState ≠ .filling n bad) (count : Nat)
    (px : List Colour) : f.lineEnd count px = f := by
  unfold FrameStore.lineEnd
  cases bank : f.captureState with
  | filling n bad => exact absurd bank (idle n bad)
  | empty => rfl
  | complete => rfl

end Sys2Proof.Machine

open Sys2Proof Sys2Proof.Machine

/-- Settles O27: the table of R54 row by row; a FREE handle is in no view, so that no copy of a view holds it. -/
theorem handleStatusFollowsTheViews : Obligations.HandleStatusFollowsTheViews := by
  unfold Obligations.HandleStatusFollowsTheViews
  exact fun t h => ⟨Table.status_eq_free, Table.status_eq_pending, Table.status_eq_active, Table.status_eq_retiring,
    fun free => ⟨Table.publish_free free, Table.bind_free free, Table.flip_free free⟩⟩

/-- Settles O31: TABLE PUBLISH, and DRAFT REVERT by whether STAGED is there. -/
theorem publishAndRevert : Obligations.PublishAndRevert := by
  unfold Obligations.PublishAndRevert
  intro s opened
  refine ⟨execTablePublish_done opened, fun p staged => execDraftRevert_done opened ?_,
    fun staged => execDraftRevert_done opened ?_⟩ <;>
    simp only [Table.revertSource, staged, Option.getD_some, Option.getD_none]

/-- Settles O32: the three states of the capture bank. -/
theorem sourceFrameStartBeginsAndBinds : Obligations.SourceFrameStartBeginsAndBinds := by
  unfold Obligations.SourceFrameStartBeginsAndBinds
  intro s running t
  have starts : exec .sourceFrameStart s = .next ((({ t with frame := s.frame.frameStart }).raiseIf
      (!s.frame.captureState.isEmpty) .frameLoss)) := by
    have bound : s.table.bind = t.table := rfl
    exact (execSourceFrameStart_running running).trans (by rw [bound])
  rw [starts]
  refine ⟨fun bank => ?_, fun n bad bank => ?_, fun bank => ?_⟩
  all_goals exact congrArg Host.Outcome.next (by rw [bank, FrameStore.frameStart, bank]; rfl)

/-- Settles O33: a line end and a frame end by whether a frame is in progress; the line stored reads as
`Bank.pixel_storeLine` says. -/
theorem lineAndFrameEndsFillTheCaptureBank : Obligations.LineAndFrameEndsFillTheCaptureBank := by
  unfold Obligations.LineAndFrameEndsFillTheCaptureBank
  intro s running
  refine ⟨fun count px => ⟨fun n bad filling room => ?_, fun n bad filling full => ?_, fun idle => ?_⟩,
    fun n bad filling => ⟨fun whole good => ?_, fun damaged => ?_⟩, execSourceFrameEnd_idle running⟩
  · refine ⟨Bank.storeLine n count.toNat px s.frame.capture, (execLineEnd_running running count px).trans ?_,
      fun wf col row => ?_⟩
    · rw [FrameStore.lineEnd_room filling room]
      rfl
    · rw [Bank.pixel_storeLine wf]
      simp only [lt_min_iff]
      rfl
  · refine (execLineEnd_running running count px).trans ?_
    rw [FrameStore.lineEnd_full filling full]
  · exact (execLineEnd_running running count px).trans (by rw [FrameStore.lineEnd_idle idle])
  · exact execSourceFrameEnd_whole running (by rw [filling, whole, good])
  · refine execSourceFrameEnd_damaged running filling ?_
    rintro ⟨rfl, rfl⟩
    simp at damaged

end

section
/-! PROOFS. A composition (chapters 5 and 6): the candidates of a panel and the layer fields, the Reflow List, the memory and
the flags, the split at the fold (O38, O39, O40); and that records and stacks agree with SHOWN after every step (O58). -/

namespace Sys2Proof.Machine

/-! ## Handles -/

theorem mem_handles (h : Handle) : h ∈ handles := List.mem_finRange h

theorem handles_ascend : handles.Pairwise (· < ·) := List.pairwise_lt_finRange 32

/-- A list of different handles holds at most the 32 there are. -/
theorem handles_length_le {l : List Handle} (nodup : l.Nodup) : l.length ≤ 32 := by
  simpa using nodup.length_le_card

/-! ## Placements stand on LIVE panels alone (R91) -/

/-- What the tests of R91 require of the panels for each choice. -/
def Scene.Allows (sc : Scene) (e : Entry) : Choice → Prop
  | .none _ => True
  | .span _ => sc.canSpan = true
  | .home => sc.live e.home = true
  | .guest => sc.live (otherPanel e.home) = true

theorem Scene.allows_choosePanel (sc : Scene) (e : Entry) : sc.Allows e (sc.choosePanel e) := by
  unfold Scene.choosePanel
  split <;> [skip; split]
  · assumption
  · assumption
  · trivial

theorem Scene.allows_choose (sc : Scene) (e : Entry) : sc.Allows e (sc.choose e) := by
  cases settled : sc.posture with
  | none => rw [Scene.choose_unsettled settled]; trivial
  | some p =>
    cases visible : e.visibleIn p with
    | false => rw [Scene.choose_notVisible settled visible]; trivial
    | true =>
      rw [Scene.choose_visible settled visible]
      split <;> [split; skip]
      · assumption
      · exact sc.allows_choosePanel e
      · exact sc.allows_choosePanel e

theorem partOn_panelTarget {x y : Panel} {sh : Shown} {p : Part} (isPart : partOn x (panelTarget y) sh = some p) :
    x = y := by
  cases x <;> cases y <;> first | rfl | cases isPart

theorem Scene.live_of_part {sc : Scene} {e : Entry} {x : Panel} {p : Part} (isPart : (sc.resolve e).part x = some p) :
    sc.stateOf x = .live := by
  have allowed := sc.allows_choose e
  cases chosen : sc.choose e with
  | none reason =>
    rw [Scene.resolve_none chosen] at isPart
    cases x <;> cases isPart
  | span o =>
    rw [chosen] at allowed
    obtain ⟨-, liveA, liveB⟩ := Scene.canSpan_iff.mp allowed
    cases x <;> assumption
  | home =>
    rw [chosen] at allowed
    rw [Scene.resolve_home chosen] at isPart
    obtain ⟨sh, -, onPanel⟩ := placedRecord_part isPart
    exact partOn_panelTarget onPanel ▸ Scene.live_iff.mp allowed
  | guest =>
    rw [chosen] at allowed
    rw [Scene.resolve_guest chosen] at isPart
    obtain ⟨sh, -, onPanel⟩ := placedRecord_part isPart
    exact partOn_panelTarget onPanel ▸ Scene.live_iff.mp allowed

/-! ## Candidates (R115, R116) -/

/-- The order of R116: priority 7 first, among equals the lower handle first. -/
def Layer.Before (k l : Layer) : Prop := l.priority < k.priority ∨ (l.priority = k.priority ∧ k.handle < l.handle)

theorem Layer.before_irrefl (l : Layer) : ¬ l.Before l := by
  simp [Layer.Before]

section
variable {sc : Scene} {x : Panel} {h : Handle} {l : Layer}

theorem Scene.layerOf_eq_some : sc.layerOf x h = some l ↔ ∃ e p sh, sc.shown.view[h] = some e ∧
    (sc.resolve e).part x = some p ∧ (sc.resolve e).shown = some sh ∧ l = ⟨h, e.priority, p, sh.step⟩ := by
  unfold Scene.layerOf
  constructor
  · intro layer
    split at layer
    · cases layer
    · next e held =>
      simp only at layer
      split at layer
      · next p sh part shown => exact ⟨e, p, sh, held, part, shown, (Option.some.inj layer).symm⟩
      · cases layer
  · rintro ⟨e, p, sh, held, part, shown, rfl⟩
    simp only [held, part, shown]

theorem Scene.layerOf_handle (layer : sc.layerOf x h = some l) : l.handle = h := by
  obtain ⟨e, p, sh, -, -, -, rfl⟩ := Scene.layerOf_eq_some.mp layer
  rfl

theorem Scene.mem_candidates : l ∈ sc.candidates x ↔ sc.layerOf x l.handle = some l := by
  simp only [Scene.candidates, List.mem_flatMap, List.mem_filter, List.mem_filterMap, decide_eq_true_eq]
  constructor
  · rintro ⟨p, -, ⟨h, -, layer⟩, -⟩
    rwa [Scene.layerOf_handle layer]
  · exact fun layer => ⟨l.priority, by simp, ⟨l.handle, mem_handles _, layer⟩, rfl⟩

theorem Scene.holds_of_mem_candidates (mem : l ∈ sc.candidates x) : sc.shown.view.holds l.handle = true := by
  obtain ⟨e, p, sh, held, -⟩ := Scene.layerOf_eq_some.mp (Scene.mem_candidates.mp mem)
  simp [View.holds, held]

theorem Scene.candidates_pairwise (sc : Scene) (x : Panel) : (sc.candidates x).Pairwise Layer.Before := by
  have ascend : (handles.filterMap (sc.layerOf x)).Pairwise fun k l => k.handle < l.handle := by
    refine handles_ascend.filterMap _ fun h h' lower k layer l layer' => ?_
    rwa [Scene.layerOf_handle layer, Scene.layerOf_handle layer']
  rw [Scene.candidates, List.pairwise_flatMap]
  constructor
  · intro p _
    refine (ascend.filter _).imp_of_mem fun {k l} memK memL lower => .inr ⟨?_, lower⟩
    simp only [List.mem_filter, decide_eq_true_eq] at memK memL
    rw [memK.2, memL.2]
  · refine (List.pairwise_reverse.mpr (List.pairwise_lt_finRange 8)).imp fun {p q} lower k memK l memL => .inl ?_
    simp only [List.mem_filter, decide_eq_true_eq] at memK memL
    rwa [memK.2, memL.2]

theorem Scene.candidates_handles_nodup (sc : Scene) (x : Panel) : ((sc.candidates x).map Layer.handle).Nodup := by
  refine List.pairwise_map.mpr ((sc.candidates_pairwise x).imp_of_mem fun {k l} memK memL before same => ?_)
  have layerK := Scene.mem_candidates.mp memK
  rw [same, Scene.mem_candidates.mp memL] at layerK
  obtain rfl := Option.some.inj layerK
  exact l.before_irrefl before

theorem Scene.candidates_length_le (sc : Scene) (x : Panel) : (sc.candidates x).length ≤ 32 := by
  simpa using handles_length_le (sc.candidates_handles_nodup x)

theorem Scene.candidates_of_not_live (dark : sc.stateOf x ≠ .live) : sc.candidates x = [] := by
  refine List.eq_nil_iff_forall_not_mem.mpr fun l mem => dark ?_
  obtain ⟨e, p, sh, -, part, -⟩ := Scene.layerOf_eq_some.mp (Scene.mem_candidates.mp mem)
  exact Scene.live_of_part part

/-- The handles of the stack, then the starved: every candidate. -/
theorem Scene.stack_order (sc : Scene) (x : Panel) (before : PanelStack) :
    (sc.stack x before).order = (sc.candidates x).map Layer.handle := by
  rw [PanelStack.order, Scene.stack, ← List.map_append, List.take_append_drop]

/-! ## Layer fields (R116) -/

theorem Scene.layerField_slot {n : Fin 6} :
    sc.layerField x h = .slot n ↔ (((sc.candidates x).take 6).map Layer.handle)[n.val]? = some h := by
  have nodup := sc.candidates_handles_nodup x
  have within := n.isLt
  rw [List.map_take, List.getElem?_take, if_pos within]
  generalize orderIs : (sc.candidates x).map Layer.handle = order at nodup
  simp only [Scene.layerField, orderIs, List.contains_eq_mem, decide_eq_true_eq]
  constructor
  · intro field
    split at field
    · next mem =>
      split at field
      · cases field
        exact List.getElem?_idxOf mem
      · cases field
    · cases field
  · intro at_
    obtain ⟨short, rfl⟩ := List.getElem?_eq_some_iff.mp at_
    have place := nodup.idxOf_getElem n.val short
    rw [if_pos (List.getElem_mem short), dif_pos (by rwa [place])]
    simp only [place, Fin.eta]

theorem Scene.layerField_starved :
    sc.layerField x h = .starved ↔ h ∈ ((sc.candidates x).drop 6).map Layer.handle := by
  have nodup := sc.candidates_handles_nodup x
  rw [List.map_drop]
  generalize orderIs : (sc.candidates x).map Layer.handle = order at nodup
  simp only [Scene.layerField, orderIs, List.contains_eq_mem, decide_eq_true_eq, List.mem_drop_iff_getElem]
  constructor
  · intro field
    split at field
    · next mem =>
      split at field
      · cases field
      · next late =>
        have place := List.idxOf_lt_length_of_mem mem
        exact ⟨order.idxOf h - 6, by omega, by simp [Nat.add_sub_cancel' (Nat.le_of_not_lt late)]⟩
    · cases field
  · rintro ⟨k, within, rfl⟩
    have place := nodup.idxOf_getElem (k + 6) (by omega)
    simp only [Nat.add_comm 6 k]
    rw [if_pos (List.getElem_mem _), dif_neg (by rw [place]; omega)]

/-! ## Records, Reflow List, handover (R102, R106, R110) -/

theorem Scene.recordOf_held {e : Entry} (held : sc.shown.view[h] = some e) : sc.recordOf h = sc.resolve e := by
  simp only [Scene.recordOf, held]

theorem Scene.recordOf_free (free : sc.shown.view[h] = none) : sc.recordOf h = .vacant sc.shown.gen := by
  simp only [Scene.recordOf, free]

theorem Scene.recordOf_provisional : (sc.recordOf h).provisional = true ↔
    ∃ e, sc.shown.view[h] = some e ∧ (sc.resolve e).provisional = true := by
  cases held : sc.shown.view[h] with
  | none => simp [Scene.recordOf_free held, Record.vacant]
  | some e => simp [Scene.recordOf_held held]

theorem Scene.resolve_inShown (sc : Scene) (e : Entry) :
    (sc.resolve e).inShown = true ∧ (sc.resolve e).gen = sc.shown.gen := by
  rcases sc.resolve_cases e with ⟨reason, record⟩ | ⟨kind, t, o, record, -⟩ <;> rw [record] <;> exact ⟨rfl, rfl⟩

theorem Scene.recordOf_inShown (sc : Scene) (h : Handle) :
    (sc.recordOf h).inShown = sc.shown.view.holds h ∧ (sc.recordOf h).gen = sc.shown.gen := by
  cases held : sc.shown.view[h] with
  | none => simp [Scene.recordOf_free held, Record.vacant, View.holds, held]
  | some e => simp [Scene.recordOf_held held, View.holds, held, sc.resolve_inShown e]

theorem Scene.mem_joins {list : List Handle} :
    h ∈ sc.joins list ↔ (sc.recordOf h).provisional = true ∧ h ∉ list := by
  simp [Scene.joins, mem_handles]

theorem Scene.joins_ascend (sc : Scene) (list : List Handle) : (sc.joins list).Pairwise (· < ·) :=
  handles_ascend.filter _

theorem Scene.mem_reflow {list : List Handle} : h ∈ sc.reflow list ↔ (sc.recordOf h).provisional = true := by
  rw [Scene.reflow, List.mem_append, List.mem_filter, Scene.mem_joins]
  tauto

theorem Scene.reflow_nodup {list : List Handle} (nodup : list.Nodup) : (sc.reflow list).Nodup := by
  refine List.nodup_append.mpr ⟨nodup.filter _, (sc.joins_ascend list).imp ne_of_lt, ?_⟩
  rintro h stays _ joins rfl
  exact (Scene.mem_joins.mp joins).2 (List.mem_of_mem_filter stays)

theorem Scene.pairOf_eq (sc : Scene) (h : Handle) : sc.pairOf h = sc.shown.view[h].map fun e => (sc.resolve e).pair := by
  unfold Scene.pairOf
  split <;> simp_all

theorem Scene.handedOver_iff {memory : Vector (Option PlacementPair) 32} : sc.handedOver memory h = true ↔
    ∃ e q, sc.shown.view[h] = some e ∧ memory[h] = some q ∧ (sc.resolve e).pair ≠ q := by
  cases held : sc.shown.view[h] <;> cases before : memory[h] <;>
    simp [Scene.handedOver, Scene.pairOf, held, before]

end

/-! ## The Composition Unit after a composition -/

section
variable {sc : Scene} {c : Composition}

@[simp] theorem Composition.after_stackOf (sc : Scene) (c : Composition) (x : Panel) :
    (c.after sc).stackOf x = sc.stack x (c.stackOf x) := by
  cases x <;> rfl

@[simp] theorem Composition.after_record (sc : Scene) (c : Composition) (h : Handle) :
    (c.after sc).records[h] = sc.finalRecord h := Vector.getElem_ofFn ..

@[simp] theorem Composition.after_memory (sc : Scene) (c : Composition) (h : Handle) :
    (c.after sc).memory[h] = sc.pairOf h := Vector.getElem_ofFn ..

theorem Scene.finalRecord_layer (sc : Scene) (x : Panel) (h : Handle) :
    (sc.finalRecord h).layer x = sc.layerField x h := by
  cases x <;> rfl

end

theorem State.raiseIf_flagged_iff {b : Bool} {p : Prop} (means : b = true ↔ p) (f g : Flag) (s : State) :
    (s.raiseIf b f).flagged g = true ↔ s.flagged g = true ∨ (g = f ∧ p) := by
  rw [State.flagged_raiseIf, Bool.or_eq_true, Bool.and_eq_true, decide_eq_true_eq, means, and_comm]

theorem Composition.starved_iff (c : Composition) :
    (decide (c.stackA.starved ≠ []) || decide (c.stackB.starved ≠ [])) = true ↔ ∃ x, (c.stackOf x).starved ≠ [] := by
  rw [Bool.or_eq_true, decide_eq_true_eq, decide_eq_true_eq]
  exact ⟨fun starved => starved.elim (⟨.a, ·⟩) (⟨.b, ·⟩),
    fun ⟨x, starved⟩ => by cases x <;> [exact .inl starved; exact .inr starved]⟩

theorem handles_any_iff {p : Handle → Bool} : handles.any p = true ↔ ∃ h, p h = true := by
  simp only [List.any_eq_true, mem_handles, true_and]

/-- The flags of a composition (R104, R106, R117). -/
theorem State.compose_flagged (s : State) (g : Flag) : s.compose.flagged g = true ↔ s.flagged g = true ∨
    (g = .reflow ∧ s.scene.joins s.comp.reflow ≠ []) ∨
    (g = .handover ∧ ∃ h, s.scene.handedOver s.comp.memory h = true) ∨
    (g = .layerOverflow ∧ ∃ x, ((s.comp.after s.scene).stackOf x).starved ≠ []) := by
  unfold State.compose
  rw [State.raiseIf_flagged_iff (Composition.starved_iff _), State.raiseIf_flagged_iff handles_any_iff,
    State.raiseIf_flagged_iff decide_eq_true_iff, or_assoc, or_assoc]
  simp only [State.flagged]

/-! ## The records and stacks of a composition are sound -/

theorem State.recordsSound_of_after {s : State} {sc : Scene} {c : Composition} (shown : s.table.shown = sc.shown)
    (comp : s.comp = c.after sc) (nodup : c.reflow.Nodup) : s.RecordsSound := by
  unfold State.RecordsSound
  rw [comp, shown]
  refine ⟨Scene.reflow_nodup nodup, fun h => ?_, fun h => ?_⟩
  · rw [Composition.after_record]
    exact Scene.mem_reflow
  · rw [Composition.after_record]
    obtain ⟨inShown, gen⟩ := sc.recordOf_inShown h
    refine ⟨inShown, gen, fun provisional => inShown.trans ?_⟩
    obtain ⟨e, held, -⟩ := Scene.recordOf_provisional.mp provisional
    simp [View.holds, held]

theorem State.stackSound_of_after {s : State} {sc : Scene} {c : Composition} (shown : s.table.shown = sc.shown)
    (comp : s.comp = c.after sc) (x : Panel) : s.StackSound x := by
  have few := sc.candidates_length_le x
  unfold State.StackSound
  rw [comp, shown, Composition.after_stackOf, Scene.stack_order]
  refine ⟨List.length_take_le .., ?_, sc.candidates_handles_nodup x, fun starved => ?_, fun h mem => ?_,
    (sc.candidates_pairwise x).take, fun h n => ?_, fun h => ?_⟩
  · simp only [Scene.stack, slotCount, List.length_map, List.length_drop]
    omega
  · have many : 6 < (sc.candidates x).length := by
      by_contra short
      exact starved (by simp [Scene.stack, slotCount, Nat.le_of_not_lt short])
    simp only [Scene.stack, slotCount, List.length_take]
    omega
  · obtain ⟨l, candidate, rfl⟩ := List.mem_map.mp mem
    exact Scene.holds_of_mem_candidates candidate
  · rw [Composition.after_record, Scene.finalRecord_layer]
    exact Scene.layerField_slot
  · rw [Composition.after_record, Scene.finalRecord_layer]
    exact Scene.layerField_starved

/-- SHOWN changes at an output frame start, which takes CAPTURE, and at the resets (R82). -/
theorem TableStep.shown {c : Instr} {b b' : Table} (step : TableStep c b b') :
    b'.shown = b.shown ∨ (c = .outputFrameStart ∧ b'.shown = b.capture) ∨ isReset c := by
  cases step
  case flipped command => exact .inr (.inl ⟨command, rfl⟩)
  case reset command => exact .inr (.inr command)
  case captured =>
    unfold Table.bind
    split <;> exact .inl rfl
  all_goals exact .inl rfl

/-- What a command or event can make of the Composition Unit and SHOWN: nothing, the composition of an output frame start,
or the reset state. -/
theorem exec_comp {c : Instr} {s t : State} (h : exec c s = .next t) :
    (t.comp = s.comp ∧ t.table.shown = s.table.shown) ∨ (c = .outputFrameStart ∧ t = s.frameStarted) ∨
      (isReset c ∧ t.comp = Composition.reset ∧ t.table = Table.reset) := by
  cases c
  case outputFrameStart =>
    rcases execOutputFrameStart_next h with ⟨-, rfl⟩ | ⟨-, rfl⟩
    · exact .inl ⟨rfl, rfl⟩
    · exact .inr (.inl ⟨rfl, rfl⟩)
  case softReset =>
    rcases execSoftReset_next h with rfl | rfl
    · exact .inl ⟨rfl, rfl⟩
    · exact .inr (.inr ⟨.inl rfl, rfl, rfl⟩)
  case pinReset n =>
    obtain ⟨k, rfl | rfl⟩ := execPinReset_next h
    · exact .inl ⟨rfl, rfl⟩
    · exact .inr (.inr ⟨.inr ⟨n, rfl⟩, rfl, rfl⟩)
  all_goals exact .inl ⟨exec_same h .comp rfl, (exec_table h).shown.resolve_right (by simp [isReset])⟩

theorem State.frameStarted_shown (s : State) : s.frameStarted.table.shown = s.frameScene.shown := by
  rw [State.frameStarted_table]
  rfl

/-- Records, Reflow List and layer stacks agree with each other and with SHOWN. -/
def State.CompositionSound (s : State) : Prop := s.RecordsSound ∧ s.StackSound .a ∧ s.StackSound .b

theorem State.compositionSound_of_after {s : State} {sc : Scene} {c : Composition} (shown : s.table.shown = sc.shown)
    (comp : s.comp = c.after sc) (nodup : c.reflow.Nodup) : s.CompositionSound :=
  ⟨State.recordsSound_of_after shown comp nodup, State.stackSound_of_after shown comp .a,
    State.stackSound_of_after shown comp .b⟩

theorem State.compositionSound_of_reset {s : State} (table : s.table = Table.reset) (comp : s.comp = Composition.reset) :
    s.CompositionSound := by
  have free (h : Handle) : View.empty.holds h = false := by simp [View.holds, View.empty]
  have records (h : Handle) : Composition.reset.records[h] = Record.vacant 0 := Vector.getElem_replicate ..
  have vacant (x : Panel) (h : Handle) : (Composition.reset.records[h]).layer x = .notHere := by
    rw [records]
    cases x <;> rfl
  have stack (x : Panel) : s.StackSound x := by
    unfold State.StackSound
    rw [comp, table, show Composition.reset.stackOf x = PanelStack.reset by cases x <;> rfl]
    simp only [vacant]
    simp [PanelStack.reset, PanelStack.order]
  refine ⟨?_, stack .a, stack .b⟩
  unfold State.RecordsSound
  rw [comp, table]
  refine ⟨List.nodup_nil, fun h => ?_, fun h => ?_⟩
  · rw [records]
    exact ⟨nofun, nofun⟩
  · rw [records]
    exact ⟨(free h).symm, rfl, nofun⟩

theorem State.compositionSound_congr {s t : State} (comp : t.comp = s.comp) (shown : t.table.shown = s.table.shown) :
    t.CompositionSound ↔ s.CompositionSound := by
  unfold State.CompositionSound State.RecordsSound State.StackSound
  rw [comp, shown]

theorem exec_keeps_compositionSound {c : Instr} {s t : State} (sound : s.CompositionSound) (h : exec c s = .next t) :
    t.CompositionSound := by
  rcases exec_comp h with ⟨comp, shown⟩ | ⟨-, rfl⟩ | ⟨-, comp, table⟩
  · exact (State.compositionSound_congr comp shown).mpr sound
  · obtain ⟨⟨nodup, -⟩, -⟩ := sound
    exact State.compositionSound_of_after s.frameStarted_shown s.frameStarted_comp nodup
  · exact State.compositionSound_of_reset table comp

/-! ## The split at the fold (R99) -/

section
variable {sh : Shown} {p : Part}

theorem spanPartA_eq_some : spanPartA sh = some p ↔ sh.part.rect.x < 1200 ∧
    p = ⟨⟨sh.part.rect.x, sh.part.rect.y, min (sh.part.rect.x + sh.part.rect.w) 1200 - sh.part.rect.x, sh.part.rect.h⟩,
      sh.part.start⟩ := by
  simp only [spanPartA, Option.ite_none_right_eq_some, Option.some.injEq, eq_comm (b := p)]

theorem spanPartB_eq_some : spanPartB sh = some p ↔ 1200 < sh.part.rect.x + sh.part.rect.w ∧
    p = ⟨⟨max sh.part.rect.x 1200 - 1200, sh.part.rect.y,
        sh.part.rect.x + sh.part.rect.w - max sh.part.rect.x 1200, sh.part.rect.h⟩,
      ⟨sh.part.start.x + sh.step * (max sh.part.rect.x 1200 - sh.part.rect.x), sh.part.start.y⟩⟩ := by
  simp only [spanPartB, Option.ite_none_right_eq_some, Option.some.injEq, eq_comm (b := p)]

theorem spanPartA_covers {col row : Nat} (left : col < 1200) :
    (∃ p, spanPartA sh = some p ∧ p.rect.Covers col row) ↔ sh.part.rect.Covers col row := by
  simp only [spanPartA_eq_some, Rect.Covers]
  constructor
  · rintro ⟨_, ⟨-, rfl⟩, covers⟩
    simp only at covers
    omega
  · intro covers
    refine ⟨_, ⟨by omega, rfl⟩, ?_⟩
    simp only
    omega

theorem spanPartB_covers {col row : Nat} :
    (∃ p, spanPartB sh = some p ∧ p.rect.Covers col row) ↔ sh.part.rect.Covers (col + 1200) row := by
  simp only [spanPartB_eq_some, Rect.Covers]
  constructor
  · rintro ⟨_, ⟨-, rfl⟩, covers⟩
    simp only at covers
    omega
  · intro covers
    refine ⟨_, ⟨by omega, rfl⟩, ?_⟩
    simp only
    omega

end

end Sys2Proof.Machine

open Sys2Proof Sys2Proof.Machine

/-- Settles O58: a composition leaves records and stacks sound whatever it reads; SHOWN and the Composition Unit change
together. -/
theorem stepKeepsRecordsAndStacks : Obligations.StepKeepsRecordsAndStacks := by
  unfold Obligations.StepKeepsRecordsAndStacks
  exact fun s t sound h => step_keeps (P := State.CompositionSound) (fun _ _ sound => sound) (fun _ _ sound => sound)
    (fun _ _ _ => exec_keeps_compositionSound) sound h

/-- Settles O38: the two parts cut the columns at 1200, and the start of part B steps over the columns of part A. -/
theorem spanSplitsAtTheFold : Obligations.SpanSplitsAtTheFold := by
  unfold Obligations.SpanSplitsAtTheFold
  intro sh _ _ col row shows
  refine ⟨fun left => ⟨spanPartA_covers left, fun p part _ => ?_⟩, ⟨spanPartB_covers, fun p part covers => ?_⟩,
    fun p part covers => ?_⟩
  · obtain ⟨-, rfl⟩ := spanPartA_eq_some.mp part
    rfl
  · have covered := spanPartB_covers.mp ⟨p, part, covers⟩
    obtain ⟨-, rfl⟩ := spanPartB_eq_some.mp part
    simp only [Rect.Covers] at covers covered
    have steps : col + 1200 - sh.part.rect.x =
        (max sh.part.rect.x 1200 - sh.part.rect.x) + (col - (max sh.part.rect.x 1200 - 1200)) := by omega
    simp only [shows, steps, Nat.mul_add, Nat.add_assoc]
  · obtain ⟨-, rfl⟩ := spanPartA_eq_some.mp part
    simp only [Rect.Covers] at covers
    omega

/-- Settles O39: the parts of the list, the memory and the flags of a composition. -/
theorem compositionListsAndFlags : Obligations.CompositionListsAndFlags := by
  unfold Obligations.CompositionListsAndFlags
  intro s sc t provisional
  have frame : t = { s with comp := s.comp.after sc, panelA := s.panelA.beginFrame, panelB := s.panelB.beginFrame
                            port := { s.port with flags := t.port.flags } } := s.compose_frame
  have comp : t.comp = s.comp.after sc := by rw [frame]
  have flagged := s.compose_flagged
  refine ⟨⟨sc.joins s.comp.reflow, sc.joins_ascend _, fun h => ?joins,
    ⟨s.comp.reflow.filter fun h => (sc.recordOf h).provisional, List.filter_sublist, fun h => ?stays, ?list⟩,
    ?reflow⟩, fun h => ?memory, ?handover, ?overflow, ?unchanged⟩
  case joins => exact Scene.mem_joins.trans (and_congr_left' Scene.recordOf_provisional)
  case stays => exact List.mem_filter.trans (and_comm.trans (and_congr_left' Scene.recordOf_provisional))
  case list => exact congrArg Composition.reflow comp
  case reflow => simpa using flagged .reflow
  case memory =>
    rw [comp, Composition.after_memory]
    exact sc.pairOf_eq h
  case handover =>
    rw [flagged .handover]
    simp only [Scene.handedOver_iff]
    simp [sc]
  case overflow =>
    rw [comp, flagged .layerOverflow]
    simp [sc]
  case unchanged =>
    rw [frame]

/-- Settles O40: membership and order of the candidates, and what the stack takes of them. -/
theorem layersTakeSlotsByPriority : Obligations.LayersTakeSlotsByPriority := by
  unfold Obligations.LayersTakeSlotsByPriority
  intro sc x before c
  refine ⟨fun l => Scene.mem_candidates.trans Scene.layerOf_eq_some, sc.candidates_pairwise x,
    List.take_append_drop 6 c, List.length_take_le .., rfl, ?counted, ?gen, ?state, fun q profile => ?settled,
    fun unsettled => ?unsettled, fun dark => Scene.candidates_of_not_live dark⟩
  case counted => exact (Count.toNat_bumpBy _ _).trans (by rw [List.length_drop]; rfl)
  all_goals simp only [Scene.stack, Scene.context]
  case gen => split <;> rfl
  case state => split <;> rfl
  case settled =>
    rw [profile]
    exact ⟨rfl, by cases x <;> rfl⟩
  case unsettled =>
    rw [unsettled]
    exact ⟨rfl, rfl⟩

end

section
/-! PROOFS. A panel's work in one event (chapters 6 to 8): that it stays in a sound state through every run, completion and
event, and which inputs, counters and rows it leaves as they are. -/

namespace Sys2Proof.Machine

/-! ## What soundness asks of each panel state (chapters 6 to 8) -/

/-- A run of the slot, with a count of steps that R168 allows. -/
def Run.Of (slot : ScriptSlot) (r : Run) : Prop := r.slot = slot ∧ 1 ≤ r.count ∧ r.count ≤ 512

/-- The inputs and the recovery window agree in every state (R44, R142, R143). -/
structure PanelUnit.Agrees (u : PanelUnit) : Prop where
  inputs : u.demandIn = true → u.wantedIn = true
  window : u.recoveryWindow.isSome = decide (0 < u.recoveryCount)
  few : u.recoveryCount ≤ 3

/-- What every state but FAULT asks beside: no fault record, and fewer than three recoveries (R142, R145). -/
structure PanelUnit.Steady (u : PanelUnit) : Prop extends u.Agrees where
  faultRecord : u.faultRecord = none
  fewer : u.recoveryCount ≤ 2

/-- No pixel stream and no layers (R123, R125). -/
def PanelUnit.Unlit (u : PanelUnit) : Prop := u.layersEnabled = false ∧ u.linkContent = .off

/-- WAKING and SLEEPING, apart from their run. -/
structure PanelUnit.BootRest (u : PanelUnit) : Prop where
  steady : u.Steady
  unlit : u.Unlit
  linger : u.linger = .absent

/-- LIVE, apart from a run. -/
structure PanelUnit.LiveRest (u : PanelUnit) : Prop where
  steady : u.Steady
  linger : u.linger = .absent
  demand : u.demandIn = true
  latched : u.latched = false
  rows : if u.layersEnabled then u.linkContent = .layers else u.linkContent = .background ∨ u.linkContent = .off

/-- IDLE, apart from a run. -/
structure PanelUnit.IdleRest (u : PanelUnit) : Prop where
  steady : u.Steady
  linger : u.linger = .absent ↔ u.wantedIn = true
  demand : u.demandIn = false
  latched : u.latched = false
  layers : u.layersEnabled = false
  rows : u.linkContent = .black ∨ u.linkContent = .off

/-- DARK, apart from the absence of a run. -/
structure PanelUnit.DarkRest (u : PanelUnit) : Prop where
  steady : u.Steady
  unlit : u.Unlit
  linger : u.linger = .absent
  wanted : u.wantedIn = false
  latched : u.latched = false

/-- The fields of a fault record fit its kind (R145). -/
def FaultRecord.Fits (f : FaultRecord) : Prop :=
  f.left ≠ .fault ∧ match f.kind with
    | .script | .recoveryLimit => f.step.isSome = true ∧ f.error.isSome = true
    | .stopped => f.error = none

/-- FAULT, apart from the absence of a run. -/
structure PanelUnit.FaultRest (u : PanelUnit) : Prop where
  agrees : u.Agrees
  unlit : u.Unlit
  linger : u.linger = .absent
  latched : u.latched = false
  reset : u.resetAsserted = true
  power : u.powerAsserted = false
  record : ∃ f, u.faultRecord = some f ∧ f.Fits

/-- The parts of `PanelUnit.Sound`, collected by panel state. -/
def PanelUnit.FitsState (u : PanelUnit) : Prop :=
  match u.state with
  | .waking => u.BootRest ∧ ∃ r, u.run = some r ∧ r.Of .wake
  | .sleeping => u.BootRest ∧ ∃ r, u.run = some r ∧ r.Of .sleep
  | .live => u.LiveRest ∧ ∀ r, u.run = some r → r.Of .check
  | .idle => u.IdleRest ∧ (u.linger = .held → u.run.isSome = true) ∧ ∀ r, u.run = some r → r.Of .check
  | .dark => u.DarkRest ∧ u.run = none
  | .fault => u.FaultRest ∧ u.run = none

theorem PanelUnit.agrees_iff {u : PanelUnit} : u.Agrees ↔ (u.demandIn = true → u.wantedIn = true) ∧
    u.recoveryWindow.isSome = decide (0 < u.recoveryCount) ∧ u.recoveryCount ≤ 3 :=
  ⟨fun ⟨i, w, f⟩ => ⟨i, w, f⟩, fun ⟨i, w, f⟩ => ⟨i, w, f⟩⟩

theorem PanelUnit.steady_iff {u : PanelUnit} : u.Steady ↔ u.Agrees ∧ u.faultRecord = none ∧ u.recoveryCount ≤ 2 :=
  ⟨fun ⟨a, f, c⟩ => ⟨a, f, c⟩, fun ⟨a, f, c⟩ => ⟨a, f, c⟩⟩

theorem PanelUnit.sound_iff {u : PanelUnit} : u.Sound ↔ u.FitsState := by
  have boot : u.BootRest ↔ u.Steady ∧ u.Unlit ∧ u.linger = .absent :=
    ⟨fun ⟨s, l, t⟩ => ⟨s, l, t⟩, fun ⟨s, l, t⟩ => ⟨s, l, t⟩⟩
  have live : u.LiveRest ↔ u.Steady ∧ u.linger = .absent ∧ u.demandIn = true ∧ u.latched = false ∧
      if u.layersEnabled then u.linkContent = .layers else u.linkContent = .background ∨ u.linkContent = .off :=
    ⟨fun ⟨s, l, d, t, r⟩ => ⟨s, l, d, t, r⟩, fun ⟨s, l, d, t, r⟩ => ⟨s, l, d, t, r⟩⟩
  have idle : u.IdleRest ↔ u.Steady ∧ (u.linger = .absent ↔ u.wantedIn = true) ∧ u.demandIn = false ∧
      u.latched = false ∧ u.layersEnabled = false ∧ (u.linkContent = .black ∨ u.linkContent = .off) :=
    ⟨fun ⟨s, l, d, t, y, r⟩ => ⟨s, l, d, t, y, r⟩, fun ⟨s, l, d, t, y, r⟩ => ⟨s, l, d, t, y, r⟩⟩
  have dark : u.DarkRest ↔ u.Steady ∧ u.Unlit ∧ u.linger = .absent ∧ u.wantedIn = false ∧ u.latched = false :=
    ⟨fun ⟨s, l, t, w, a⟩ => ⟨s, l, t, w, a⟩, fun ⟨s, l, t, w, a⟩ => ⟨s, l, t, w, a⟩⟩
  have fault : u.FaultRest ↔ u.Agrees ∧ u.Unlit ∧ u.linger = .absent ∧ u.latched = false ∧ u.resetAsserted = true ∧
      u.powerAsserted = false ∧ ∃ f, u.faultRecord = some f ∧ f.Fits :=
    ⟨fun ⟨a, l, t, c, r, p, f⟩ => ⟨a, l, t, c, r, p, f⟩, fun ⟨a, l, t, c, r, p, f⟩ => ⟨a, l, t, c, r, p, f⟩⟩
  unfold PanelUnit.Sound PanelUnit.FitsState PanelUnit.runSound PanelUnit.lingerSound PanelUnit.faultSound
    PanelUnit.inputSound PanelUnit.serviceSound PanelUnit.streamSound
  cases u.state <;> simp only [boot, live, idle, dark, fault, PanelUnit.steady_iff, PanelUnit.agrees_iff, Run.Of,
    PanelUnit.Unlit]
  case fault =>
    cases u.run <;> cases recorded : u.faultRecord <;> simp
    rename_i f
    cases kind : f.kind <;> simp [FaultRecord.Fits, kind] <;> grind
  all_goals cases u.run <;> cases u.faultRecord <;> cases u.wantedIn <;> cases u.layersEnabled <;> simp <;> grind

section
variable {u : PanelUnit}

theorem PanelUnit.sound_waking (state : u.state = .waking) :
    u.Sound ↔ u.BootRest ∧ ∃ r, u.run = some r ∧ r.Of .wake := by
  rw [PanelUnit.sound_iff, PanelUnit.FitsState, state]

theorem PanelUnit.sound_sleeping (state : u.state = .sleeping) :
    u.Sound ↔ u.BootRest ∧ ∃ r, u.run = some r ∧ r.Of .sleep := by
  rw [PanelUnit.sound_iff, PanelUnit.FitsState, state]

theorem PanelUnit.sound_live (state : u.state = .live) :
    u.Sound ↔ u.LiveRest ∧ ∀ r, u.run = some r → r.Of .check := by
  rw [PanelUnit.sound_iff, PanelUnit.FitsState, state]

theorem PanelUnit.sound_idle (state : u.state = .idle) : u.Sound ↔
    u.IdleRest ∧ (u.linger = .held → u.run.isSome = true) ∧ ∀ r, u.run = some r → r.Of .check := by
  rw [PanelUnit.sound_iff, PanelUnit.FitsState, state]

theorem PanelUnit.sound_dark (state : u.state = .dark) : u.Sound ↔ u.DarkRest ∧ u.run = none := by
  rw [PanelUnit.sound_iff, PanelUnit.FitsState, state]

theorem PanelUnit.sound_fault (state : u.state = .fault) : u.Sound ↔ u.FaultRest ∧ u.run = none := by
  rw [PanelUnit.sound_iff, PanelUnit.FitsState, state]

end

/-! ## Soundness by what it rests on -/

/-- The part of a unit that `Steady` speaks of. -/
def PanelUnit.standing (u : PanelUnit) : Bool × Bool × Option Nat × Nat × Option FaultRecord :=
  (u.demandIn, u.wantedIn, u.recoveryWindow, u.recoveryCount, u.faultRecord)

theorem PanelUnit.Steady.of_standing {u v : PanelUnit} (steady : u.Steady) (same : v.standing = u.standing) :
    v.Steady := by
  simp only [PanelUnit.standing, Prod.mk.injEq] at same
  obtain ⟨demand, wanted, window, count, record⟩ := same
  obtain ⟨⟨inputs, windowed, few⟩, faultRecord, fewer⟩ := steady
  exact ⟨⟨by rwa [demand, wanted], by rwa [window, count], by rwa [count]⟩, by rwa [record], by rwa [count]⟩

/-- A sound unit agrees in its inputs and its window whatever its state. -/
theorem PanelUnit.Sound.agrees {u : PanelUnit} (sound : u.Sound) : u.Agrees := by
  rw [PanelUnit.sound_iff, PanelUnit.FitsState] at sound
  cases state : u.state <;> rw [state] at sound
  case fault => exact sound.1.agrees
  all_goals exact sound.1.steady.toAgrees

theorem PanelUnit.Sound.steady {u : PanelUnit} (sound : u.Sound) (running : u.state ≠ .fault) : u.Steady := by
  rw [PanelUnit.sound_iff, PanelUnit.FitsState] at sound
  cases state : u.state <;> rw [state] at sound
  case fault => exact absurd state running
  all_goals exact sound.1.steady

/-- Layers are enabled in LIVE alone (R125). -/
theorem PanelUnit.Sound.layers {u : PanelUnit} (sound : u.Sound) (enabled : u.layersEnabled = true) : u.state = .live := by
  rw [PanelUnit.sound_iff, PanelUnit.FitsState] at sound
  cases state : u.state <;> rw [state] at sound
  case idle => simp [sound.1.layers] at enabled
  all_goals simp [sound.1.unlit.1] at enabled

/-! ## Entering a state (R124, R125, R137) -/

theorem PanelWork.enter_layersEnabled {w : PanelWork} (layers : w.unit.layersEnabled = true → w.unit.state = .live)
    (env : PanelEnv) (new : PanelState) : (w.enter env new).unit.layersEnabled = false := by
  by_cases live : w.unit.state = .live
  · simp [PanelWork.enter, live]
  · simpa [PanelWork.enter, live] using mt layers live

/-- What the rows to come carry once a state is entered while a stream is under way. -/
def PanelState.rowsToCome : PanelState → RowContent
  | .live => .background
  | .idle => .black
  | _ => .off

/-- The content of the next row of a running frame. -/
def topContent : List Segment → RowContent
  | [] => .off
  | g :: _ => g.content

theorem PanelUnit.linkContent_eq (u : PanelUnit) : u.linkContent = topContent u.frameRows := rfl

theorem topContent_rowsAfter (row : Nat) (new : PanelState) (rows : List Segment) :
    topContent (rowsAfter row new rows) = if topContent rows = .off then .off else new.rowsToCome := by
  cases rows with
  | nil => rfl
  | cons g rest =>
    by_cases off : g.content = .off
    · simp [rowsAfter, topContent, off]
    · cases new <;> simp [rowsAfter, topContent, off, PanelState.rowsToCome]

theorem PanelWork.enter_linkContent (env : PanelEnv) (new : PanelState) (w : PanelWork) :
    (w.enter env new).unit.linkContent = if w.unit.linkContent = .off then .off else new.rowsToCome :=
  topContent_rowsAfter env.nextRow new w.unit.frameRows

theorem PanelWork.enter_unlit {w : PanelWork} {new : PanelState}
    (layers : w.unit.layersEnabled = true → w.unit.state = .live) (env : PanelEnv) (ends : new.rowsToCome = .off) :
    (w.enter env new).unit.Unlit := by
  refine ⟨PanelWork.enter_layersEnabled layers env new, ?_⟩
  rw [PanelWork.enter_linkContent, ends, ite_self]

/-! ## A unit ready for a run -/

/-- With a run of the slot the unit is sound. -/
def PanelUnit.Ready (slot : ScriptSlot) (u : PanelUnit) : Prop :=
  ∀ r : Run, r.Of slot → ({ u with run := some r } : PanelUnit).Sound

section
variable {u : PanelUnit}

theorem Run.first_of (slot : ScriptSlot) : (⟨slot, 0, 1, .waitStart, 0, none⟩ : Run).Of slot :=
  ⟨rfl, le_rfl, show 1 ≤ 512 by decide⟩

theorem PanelUnit.BootRest.congr {v : PanelUnit} (rest : u.BootRest) (standing : v.standing = u.standing)
    (layers : v.layersEnabled = u.layersEnabled) (rows : v.frameRows = u.frameRows) (linger : v.linger = u.linger) :
    v.BootRest :=
  ⟨rest.steady.of_standing standing,
    ⟨layers.trans rest.unlit.1, by rw [PanelUnit.linkContent, rows]; exact rest.unlit.2⟩, linger.trans rest.linger⟩

theorem PanelUnit.ready_wake_iff : u.Ready .wake ↔ u.state = .waking ∧ u.BootRest := by
  constructor
  · intro ready
    have sound := ready _ (Run.first_of .wake)
    rw [PanelUnit.sound_iff, PanelUnit.FitsState] at sound
    cases state : u.state <;> simp only [state] at sound
    case waking => exact ⟨rfl, sound.1.congr rfl rfl rfl rfl⟩
    case sleeping => obtain ⟨-, r, ⟨⟩, ⟨⟩, -⟩ := sound
    case live | idle => simp [Run.Of] at sound
    all_goals cases sound.2
  · rintro ⟨state, rest⟩ r ofSlot
    rw [PanelUnit.sound_iff, PanelUnit.FitsState]
    simp only [state]
    exact ⟨rest.congr rfl rfl rfl rfl, r, rfl, ofSlot⟩

theorem PanelUnit.ready_sleep_iff : u.Ready .sleep ↔ u.state = .sleeping ∧ u.BootRest := by
  constructor
  · intro ready
    have sound := ready _ (Run.first_of .sleep)
    rw [PanelUnit.sound_iff, PanelUnit.FitsState] at sound
    cases state : u.state <;> simp only [state] at sound
    case sleeping => exact ⟨rfl, sound.1.congr rfl rfl rfl rfl⟩
    case waking => obtain ⟨-, r, ⟨⟩, ⟨⟩, -⟩ := sound
    case live | idle => simp [Run.Of] at sound
    all_goals cases sound.2
  · rintro ⟨state, rest⟩ r ofSlot
    rw [PanelUnit.sound_iff, PanelUnit.FitsState]
    simp only [state]
    exact ⟨rest.congr rfl rfl rfl rfl, r, rfl, ofSlot⟩

theorem PanelUnit.LiveRest.congr {v : PanelUnit} (rest : u.LiveRest) (standing : v.standing = u.standing)
    (layers : v.layersEnabled = u.layersEnabled) (rows : v.frameRows = u.frameRows) (linger : v.linger = u.linger)
    (latched : v.latched = u.latched) : v.LiveRest := by
  have demand : v.demandIn = u.demandIn := congrArg Prod.fst standing
  exact ⟨rest.steady.of_standing standing, linger.trans rest.linger, demand.trans rest.demand,
    latched.trans rest.latched, by rw [PanelUnit.linkContent, rows, layers]; exact rest.rows⟩

theorem PanelUnit.IdleRest.congr {v : PanelUnit} (rest : u.IdleRest) (standing : v.standing = u.standing)
    (layers : v.layersEnabled = u.layersEnabled) (rows : v.frameRows = u.frameRows) (linger : v.linger = u.linger)
    (latched : v.latched = u.latched) : v.IdleRest := by
  have demand : v.demandIn = u.demandIn := congrArg Prod.fst standing
  have wanted : v.wantedIn = u.wantedIn := congrArg (·.2.1) standing
  exact ⟨rest.steady.of_standing standing, by rw [linger, wanted]; exact rest.linger, demand.trans rest.demand,
    latched.trans rest.latched, layers.trans rest.layers, by rw [PanelUnit.linkContent, rows]; exact rest.rows⟩

theorem PanelUnit.ready_check_iff :
    u.Ready .check ↔ (u.state = .live ∧ u.LiveRest) ∨ (u.state = .idle ∧ u.IdleRest) := by
  constructor
  · intro ready
    have sound := ready _ (Run.first_of .check)
    rw [PanelUnit.sound_iff, PanelUnit.FitsState] at sound
    cases state : u.state <;> simp only [state] at sound
    case live => exact .inl ⟨rfl, sound.1.congr rfl rfl rfl rfl rfl⟩
    case idle => exact .inr ⟨rfl, sound.1.congr rfl rfl rfl rfl rfl⟩
    case waking | sleeping => obtain ⟨-, r, ⟨⟩, ⟨⟩, -⟩ := sound
    all_goals cases sound.2
  · rintro (⟨state, rest⟩ | ⟨state, rest⟩) r ofSlot <;> rw [PanelUnit.sound_iff, PanelUnit.FitsState] <;> simp only [state]
    · refine ⟨rest.congr rfl rfl rfl rfl rfl, ?_⟩
      rintro _ ⟨⟩
      exact ofSlot
    · refine ⟨rest.congr rfl rfl rfl rfl rfl, fun _ => rfl, ?_⟩
      rintro _ ⟨⟩
      exact ofSlot

/-- The run of a sound unit is one that its state is ready for. -/
theorem PanelUnit.Sound.ready (sound : u.Sound) {r : Run} (running : u.run = some r) : u.Ready r.slot ∧ r.Of r.slot := by
  rw [PanelUnit.sound_iff, PanelUnit.FitsState] at sound
  cases state : u.state <;> simp only [state, running, Option.some.injEq, exists_eq_left', forall_eq'] at sound
  case waking =>
    obtain ⟨rest, slot, counted⟩ := sound
    exact ⟨slot ▸ PanelUnit.ready_wake_iff.mpr ⟨state, rest⟩, rfl, counted⟩
  case sleeping =>
    obtain ⟨rest, slot, counted⟩ := sound
    exact ⟨slot ▸ PanelUnit.ready_sleep_iff.mpr ⟨state, rest⟩, rfl, counted⟩
  case live =>
    obtain ⟨rest, slot, counted⟩ := sound
    exact ⟨slot ▸ PanelUnit.ready_check_iff.mpr (.inl ⟨state, rest⟩), rfl, counted⟩
  case idle =>
    obtain ⟨rest, -, slot, counted⟩ := sound
    exact ⟨slot ▸ PanelUnit.ready_check_iff.mpr (.inr ⟨state, rest⟩), rfl, counted⟩
  all_goals cases sound.2

/-- A sound LIVE or IDLE panel is ready for a CHECK run. -/
theorem PanelUnit.Sound.ready_check (sound : u.Sound) (streams : u.state.streams = true) : u.Ready .check := by
  rw [PanelUnit.sound_iff, PanelUnit.FitsState] at sound
  rw [PanelUnit.ready_check_iff]
  cases state : u.state <;> simp only [state] at sound <;> simp [state, PanelState.streams] at streams
  · exact .inl ⟨rfl, sound.1⟩
  · exact .inr ⟨rfl, sound.1⟩

/-- Lines, packets, tolerated errors and the run itself do not matter to a unit ready for a run. -/
theorem PanelUnit.Ready.withRun {slot : ScriptSlot} (ready : u.Ready slot) (run : Option Run) (reset power : Bool)
    (packet : List Byte) (cut : Bool) (tolerated : Option StepFailure) :
    ({ u with run := run, resetAsserted := reset, powerAsserted := power, packet := packet, packetCut := cut
              tolerated := tolerated } : PanelUnit).Ready slot := by
  cases slot with
  | wake =>
    obtain ⟨state, rest⟩ := PanelUnit.ready_wake_iff.mp ready
    exact PanelUnit.ready_wake_iff.mpr ⟨state, rest.congr rfl rfl rfl rfl⟩
  | sleep =>
    obtain ⟨state, rest⟩ := PanelUnit.ready_sleep_iff.mp ready
    exact PanelUnit.ready_sleep_iff.mpr ⟨state, rest.congr rfl rfl rfl rfl⟩
  | check =>
    refine PanelUnit.ready_check_iff.mpr ((PanelUnit.ready_check_iff.mp ready).imp ?_ ?_)
    · exact fun ⟨state, rest⟩ => ⟨state, rest.congr rfl rfl rfl rfl rfl⟩
    · exact fun ⟨state, rest⟩ => ⟨state, rest.congr rfl rfl rfl rfl rfl⟩

end

/-! ## Work that keeps a panel sound -/

/-- A sound unit, or one ready for the run that is asked for. -/
def PanelWork.Sound (w : PanelWork) : Prop :=
  match w.request with
  | none => w.unit.Sound
  | some q => w.unit.Ready q.slot

theorem PanelWork.sound_of_none {w : PanelWork} (none_ : w.request = none) (sound : w.unit.Sound) : w.Sound := by
  rw [PanelWork.Sound, none_]
  exact sound

theorem PanelWork.sound_of_ask {w : PanelWork} {slot : ScriptSlot} (ready : w.unit.Ready slot) : (w.ask slot).Sound :=
  ready

section
variable {w : PanelWork} (env : PanelEnv)

theorem PanelWork.enter_boot {new : PanelState} (ends : new.rowsToCome = .off) (steady : w.unit.Steady)
    (layers : w.unit.layersEnabled = true → w.unit.state = .live) : (w.enter env new).unit.BootRest := by
  refine ⟨steady.of_standing rfl, PanelWork.enter_unlit layers env ends, ?_⟩
  simp only [PanelWork.enter]
  exact if_neg (by rintro rfl; cases ends)

theorem PanelWork.wake_sound (steady : w.unit.Steady) (layers : w.unit.layersEnabled = true → w.unit.state = .live) :
    (w.wake env).Sound :=
  PanelWork.sound_of_ask (PanelUnit.ready_wake_iff.mpr ⟨rfl, PanelWork.enter_boot env rfl steady layers⟩)

theorem PanelWork.putToSleep_ready (steady : w.unit.Steady)
    (layers : w.unit.layersEnabled = true → w.unit.state = .live) : (w.putToSleep env).unit.Ready .sleep :=
  PanelUnit.ready_sleep_iff.mpr ⟨rfl, PanelWork.enter_boot env rfl steady layers⟩

theorem PanelWork.enter_live (steady : w.unit.Steady) (layers : w.unit.layersEnabled = true → w.unit.state = .live)
    (demand : w.unit.demandIn = true) (latched : w.unit.latched = false) : (w.enter env .live).unit.LiveRest := by
  refine ⟨steady.of_standing rfl, rfl, demand, latched, ?_⟩
  rw [PanelWork.enter_layersEnabled layers, PanelWork.enter_linkContent]
  simp only [Bool.false_eq_true, if_false]
  split
  · exact .inr rfl
  · exact .inl rfl

/-- IDLE as it is entered, whatever becomes of the linger timer. -/
theorem PanelWork.enter_idle (steady : w.unit.Steady) (layers : w.unit.layersEnabled = true → w.unit.state = .live)
    (demand : w.unit.demandIn = false) (latched : w.unit.latched = false) (linger : Linger)
    (timer : linger = .absent ↔ w.unit.wantedIn = true) :
    ({ (w.enter env .idle).unit with linger := linger } : PanelUnit).IdleRest := by
  refine ⟨steady.of_standing rfl, timer, demand, latched, PanelWork.enter_layersEnabled layers env .idle, ?_⟩
  have rows := PanelWork.enter_linkContent env .idle w
  split at rows
  · exact .inr rows
  · exact .inl rows

theorem PanelWork.fault_sound {kind : FaultKind} {step : Option (ScriptSlot × StepIndex × StepKind)}
    {error : Option StepError} (agrees : w.unit.Agrees) (layers : w.unit.layersEnabled = true → w.unit.state = .live)
    (fits : (⟨kind, w.unit.state, step, error⟩ : FaultRecord).Fits) : (w.fault env kind step error).unit.Sound := by
  rw [PanelUnit.sound_iff]
  have unlit : (w.enter env .fault).unit.Unlit := PanelWork.enter_unlit layers env rfl
  exact ⟨⟨⟨agrees.inputs, agrees.window, agrees.few⟩, unlit, rfl, rfl, rfl, rfl, _, rfl, fits⟩, rfl⟩

end

/-! ## Completions keep a panel sound (R134, R138, R142) -/

/-- The work with its latch cleared. -/
def PanelWork.unlatch (w : PanelWork) : PanelWork := { w with unit := { w.unit with latched := false } }

section
variable {w : PanelWork} (env : PanelEnv)

theorem PanelWork.askCheck_sound (none_ : w.request = none) (sound : w.unit.Sound)
    (streams : w.unit.state.streams = true) : (w.askCheck env).Sound := by
  unfold PanelWork.askCheck
  split
  · exact PanelWork.sound_of_ask (sound.ready_check streams)
  · exact PanelWork.sound_of_none none_ sound

theorem PanelWork.serveLatched_sound (settled : w.unlatch.Sound)
    (asks : w.unit.state.streams = true → w.request = none) : (w.serveLatched env).Sound := by
  simp only [PanelWork.serveLatched]
  split
  · next latched =>
    have streams : w.unit.state.streams = true := (Bool.and_eq_true_iff.mp latched).2
    have none_ : w.unlatch.request = none := asks streams
    rw [PanelWork.Sound, none_] at settled
    exact PanelWork.askCheck_sound env none_ settled streams
  · exact settled

theorem PanelUnit.IdleRest.sound {u : PanelUnit} (rest : u.IdleRest) (state : u.state = .idle)
    (held : u.linger = .held → u.run.isSome = true) (runs : ∀ r, u.run = some r → r.Of .check) : u.Sound := by
  rw [PanelUnit.sound_iff, PanelUnit.FitsState, state]
  exact ⟨rest, held, runs⟩

/-- The linger timer of a panel in IDLE, as its inputs ask (R134 to R137). -/
theorem PanelWork.lingerFor_sound (none_ : w.request = none) (state : w.unit.state = .idle)
    (runs : ∀ r, w.unit.run = some r → r.Of .check)
    (rest : ∀ linger : Linger, (linger = .absent ↔ w.unit.wantedIn = true) →
      ({ w.unit with linger := linger } : PanelUnit).IdleRest) :
    (w.lingerFor env w.unit.wantedIn).Sound := by
  unfold PanelWork.lingerFor
  split
  · next wanted => exact PanelWork.sound_of_none none_ ((rest .absent (by simp [wanted])).sound state nofun runs)
  · next unwanted =>
    have timed (linger : Linger) (there : linger ≠ .absent) : linger = .absent ↔ w.unit.wantedIn = true := by
      simp [there, unwanted]
    unfold PanelWork.startLinger
    split <;> [unfold PanelWork.lingerExpires; skip]
    · split
      · next running =>
        exact PanelWork.sound_of_none none_ ((rest .held (timed _ nofun)).sound state (fun _ => running) runs)
      · have idle := rest .held (timed _ nofun)
        exact PanelWork.putToSleep_ready env (idle.steady.of_standing rfl)
          fun enabled => absurd (idle.layers.symm.trans enabled) Bool.false_ne_true
    · exact PanelWork.sound_of_none none_
        ((rest (.running (env.now + ms env.lingerTime)) (timed _ nofun)).sound state nofun runs)

theorem PanelWork.lingerFor_unlatch (wanted : Bool) : (w.lingerFor env wanted).unlatch = w.unlatch.lingerFor env wanted := by
  simp only [PanelWork.lingerFor, PanelWork.startLinger, PanelWork.lingerExpires]
  split <;> [skip; split <;> [split; skip]]
  · rfl
  · next running =>
    exact (if_pos running).symm
  · next idle =>
    exact (if_neg idle).symm
  · rfl

theorem PanelWork.lingerFor_asks (none_ : w.request = none) (wanted : Bool)
    (streams : (w.lingerFor env wanted).unit.state.streams = true) : (w.lingerFor env wanted).request = none := by
  revert streams
  simp only [PanelWork.lingerFor, PanelWork.startLinger, PanelWork.lingerExpires]
  split <;> [skip; split <;> [split; skip]] <;> intro streams
  · exact none_
  · exact none_
  · cases streams
  · exact none_

theorem PanelWork.wakeSucceeds_sound (none_ : w.request = none) (run : w.unit.run = none)
    (rest : w.unit.BootRest) : (w.wakeSucceeds env).Sound := by
  have layers : w.unlatch.unit.layersEnabled = true → w.unlatch.unit.state = .live :=
    fun enabled => absurd (rest.unlit.1.symm.trans enabled) Bool.false_ne_true
  have steady : w.unlatch.unit.Steady := rest.steady.of_standing rfl
  unfold PanelWork.wakeSucceeds
  split
  · next demand =>
    refine PanelWork.serveLatched_sound env (PanelWork.sound_of_none none_ ?_) fun _ => none_
    rw [PanelUnit.sound_iff, PanelUnit.FitsState]
    refine ⟨PanelWork.enter_live env steady layers demand rfl, fun r running => ?_⟩
    cases run.symm.trans running
  · next idle =>
    refine PanelWork.serveLatched_sound env ?_ (PanelWork.lingerFor_asks (w := w.enter env .idle) env none_ _)
    rw [PanelWork.lingerFor_unlatch]
    refine PanelWork.lingerFor_sound (w := w.unlatch.enter env .idle) env none_ rfl (fun r running => ?_) fun linger timer =>
      PanelWork.enter_idle env steady layers (Bool.eq_false_iff.mpr idle) rfl linger timer
    cases run.symm.trans running

theorem PanelWork.sleepSucceeds_sound (none_ : w.request = none) (run : w.unit.run = none) (rest : w.unit.BootRest) :
    (w.sleepSucceeds env).Sound := by
  have layers : w.unlatch.unit.layersEnabled = true → w.unlatch.unit.state = .live :=
    fun enabled => absurd (rest.unlit.1.symm.trans enabled) Bool.false_ne_true
  have steady : w.unlatch.unit.Steady := rest.steady.of_standing rfl
  have dark : (w.unlatch.enter env .dark).unit.BootRest := PanelWork.enter_boot env rfl steady layers
  simp only [PanelWork.sleepSucceeds]
  split
  · exact PanelWork.wake_sound (w := w.unlatch.enter env .dark) env dark.steady
      fun enabled => absurd (dark.unlit.1.symm.trans enabled) Bool.false_ne_true
  · next unwanted =>
    refine PanelWork.sound_of_none none_ ?_
    rw [PanelUnit.sound_iff, PanelUnit.FitsState]
    exact ⟨⟨dark.steady, dark.unlit, dark.linger, by simpa using unwanted, rfl⟩, run⟩

/-- A unit ready for a CHECK run is steady, with layers in LIVE alone. -/
theorem PanelUnit.Ready.check_steady {u : PanelUnit} (ready : u.Ready .check) :
    u.Steady ∧ (u.layersEnabled = true → u.state = .live) := by
  rcases PanelUnit.ready_check_iff.mp ready with ⟨state, rest⟩ | ⟨-, rest⟩
  · exact ⟨rest.steady, fun _ => state⟩
  · exact ⟨rest.steady, fun enabled => absurd (rest.layers.symm.trans enabled) Bool.false_ne_true⟩

theorem PanelWork.checkSucceeds_sound (none_ : w.request = none) (run : w.unit.run = none) (ready : w.unit.Ready .check) :
    (w.checkSucceeds env).Sound := by
  obtain ⟨steady, layers⟩ := ready.check_steady
  unfold PanelWork.checkSucceeds
  split
  · exact PanelWork.putToSleep_ready env steady layers
  · next free =>
    refine PanelWork.sound_of_none none_ ?_
    rcases PanelUnit.ready_check_iff.mp ready with ⟨state, rest⟩ | ⟨state, rest⟩
    · rw [PanelUnit.sound_iff, PanelUnit.FitsState, state]
      exact ⟨rest, fun r running => by cases run.symm.trans running⟩
    · exact rest.sound state (fun held => absurd held free) fun r running => by cases run.symm.trans running

/-- Counting a recovery keeps the window and its count in step (R142). -/
theorem PanelUnit.countRecovery_agrees {u : PanelUnit} (steady : u.Steady) (now : Nat) : (u.countRecovery now).Agrees := by
  obtain ⟨⟨inputs, window, -⟩, -, fewer⟩ := steady
  unfold PanelUnit.countRecovery
  split
  · exact ⟨inputs, rfl, show 1 ≤ 3 by decide⟩
  · next t held => exact ⟨inputs, by simp [held], Nat.succ_le_succ fewer⟩

theorem PanelUnit.countRecovery_frame (now : Nat) (u : PanelUnit) : u.countRecovery now = { u with
    recoveryWindow := (u.countRecovery now).recoveryWindow, recoveryCount := (u.countRecovery now).recoveryCount } := by
  unfold PanelUnit.countRecovery
  split <;> rfl

theorem PanelWork.checkFails_sound (none_ : w.request = none) (ready : w.unit.Ready .check) (f : StepFailure) :
    (w.checkFails env f).Sound := by
  obtain ⟨steady, layers⟩ := ready.check_steady
  have agrees : (w.removeLinger.unit.countRecovery env.now).Agrees :=
    PanelUnit.countRecovery_agrees (u := w.removeLinger.unit) (steady.of_standing rfl) env.now
  have frame := PanelUnit.countRecovery_frame env.now w.removeLinger.unit
  have state : (w.removeLinger.unit.countRecovery env.now).state = w.unit.state := by rw [frame]; rfl
  have record : (w.removeLinger.unit.countRecovery env.now).faultRecord = none :=
    by rw [frame]; exact steady.faultRecord
  have layers' : (w.removeLinger.unit.countRecovery env.now).layersEnabled = true →
      (w.removeLinger.unit.countRecovery env.now).state = .live := by
    rw [state, frame]
    exact layers
  simp only [PanelWork.checkFails]
  split
  · refine PanelWork.sound_of_none none_ (PanelWork.fault_sound env agrees layers' ⟨?_, rfl, rfl⟩)
    rw [state]
    rcases PanelUnit.ready_check_iff.mp ready with ⟨live, -⟩ | ⟨idle, -⟩ <;> simp [*]
  · next few =>
    exact PanelWork.wake_sound env ⟨⟨agrees.inputs, agrees.window, agrees.few⟩, record, by simp only at few ⊢; omega⟩ layers'

theorem PanelWork.askedByCompletion_sound : w.askedByCompletion.Sound ↔ w.Sound := by
  unfold PanelWork.Sound PanelWork.askedByCompletion
  cases w.request <;> rfl

/-- Every completion leaves a sound panel or one ready for the run that it asks for. -/
theorem PanelWork.completed_sound {slot : ScriptSlot} (none_ : w.request = none) (ready : w.unit.Ready slot)
    (failure : Option StepFailure) : (w.completed env slot failure).Sound := by
  generalize ended : ({ w with unit := { w.unit with run := none } } : PanelWork) = v
  have none' : v.request = none := by rw [← ended]; exact none_
  have run : v.unit.run = none := by rw [← ended]
  have ready' : v.unit.Ready slot := by rw [← ended]; exact ready.withRun none _ _ _ _ _
  simp only [PanelWork.completed, PanelWork.askedByCompletion_sound, ended]
  have boots (rest : v.unit.BootRest) (state : v.unit.state ≠ .fault) (f : StepFailure) :
      (v.faultAt env .script f).Sound :=
    PanelWork.sound_of_none none' (PanelWork.fault_sound env rest.steady.toAgrees
      (fun enabled => absurd (rest.unlit.1.symm.trans enabled) Bool.false_ne_true) ⟨state, rfl, rfl⟩)
  cases slot with
  | wake =>
    obtain ⟨state, rest⟩ := PanelUnit.ready_wake_iff.mp ready'
    cases failure with
    | none => exact PanelWork.wakeSucceeds_sound env none' run rest
    | some f => exact boots rest (by simp [state]) f
  | sleep =>
    obtain ⟨state, rest⟩ := PanelUnit.ready_sleep_iff.mp ready'
    cases failure with
    | none => exact PanelWork.sleepSucceeds_sound env none' run rest
    | some f => exact boots rest (by simp [state]) f
  | check =>
    cases failure with
    | none => exact PanelWork.checkSucceeds_sound env none' run ready'
    | some f => exact PanelWork.checkFails_sound env none' ready' f

/-! ## Runs keep a panel sound -/

theorem RunLeaves.sound {slot : ScriptSlot} {v : PanelWork} (leaves : RunLeaves env slot w v) (none_ : w.request = none)
    (ready : w.unit.Ready slot) : v.Sound := by
  cases leaves with
  | waits r reset power packet cut tolerated ofSlot counted =>
    exact PanelWork.sound_of_none none_ (ready.withRun none reset power packet cut tolerated r ⟨ofSlot, counted⟩)
  | completes run reset power tolerated failure =>
    exact PanelWork.completed_sound (w := { w with unit := { w.unit with
        run := run, resetAsserted := reset, powerAsserted := power, tolerated := tolerated } }) env none_
      (ready.withRun run reset power _ _ tolerated) failure

theorem PanelWork.settle_sound (sound : w.Sound) (n : Nat) : (w.settle env n).Sound := by
  induction n generalizing w with
  | zero => exact sound
  | succ n ih =>
    rcases asked : w.request with _ | q
    · rwa [PanelWork.settle_none asked]
    · rw [PanelWork.settle_some asked]
      rw [PanelWork.Sound, asked] at sound
      exact ih (RunLeaves.sound env (PanelWork.startRun_leaves env q _) rfl sound)

/-- Every run that an event asks for is started, so that a sound panel stands at its end. -/
theorem PanelWork.settled_unit_sound (sound : w.Sound) : (w.settle env 8).unit.Sound := by
  have settled := PanelWork.settle_sound env sound 8
  rwa [PanelWork.Sound, PanelWork.settle_eight_request] at settled

end

/-! ## Events keep a panel sound (chapters 7 and 8) -/

/-- What an event or command other than a change event makes of a panel before the runs that it asks for. -/
inductive PanelEvent (c : Instr) (env : PanelEnv) (u : PanelUnit) : PanelWork → Prop
  | rests : PanelEvent c env u ⟨u, false, none⟩
  | attended : PanelEvent c env u (PanelWork.attend env ⟨u, false, none⟩)
  | lingerExpired {t : Nat} (timer : u.linger = .running t) : PanelEvent c env u (PanelWork.lingerExpires env ⟨u, false, none⟩)
  | windowClosed : PanelEvent c env u (PanelWork.closeWindow ⟨u, false, none⟩)
  | restarted (command : ∃ b, c = .panelRestart b) (faulted : u.state = .fault) :
      PanelEvent c env u (PanelWork.restart env ⟨u, false, none⟩)
  | stopped (running : u.state ≠ .fault) : PanelEvent c env u (PanelWork.stop env ⟨u, false, none⟩)
  | checked (streams : u.state.streams = true) (idle : u.run = none) :
      PanelEvent c env u (PanelWork.askCheck env ⟨u, false, none⟩)
  | rephased {r : Run} (running : u.run = some r) (phase : Phase) (packet : List Byte) (cut : Bool) :
      PanelEvent c env u ⟨{ u with run := some { r with phase := phase }, packet := packet, packetCut := cut }, false, none⟩
  | stepped {r : Run} {w : PanelWork} (running : u.run = some r) (leaves : RunLeaves env r.slot ⟨u, false, none⟩ w) :
      PanelEvent c env u w

section
variable {u : PanelUnit} {env : PanelEnv}

theorem PanelUnit.Sound.closeWindow (sound : u.Sound) :
    ({ u with recoveryCount := 0, recoveryWindow := none } : PanelUnit).Sound := by
  obtain ⟨run, linger, fault, input, service, stream⟩ := sound
  refine ⟨run, linger, fault, input, ?_, stream⟩
  simp only [PanelUnit.serviceSound, Bool.and_eq_true] at service ⊢
  exact ⟨⟨⟨service.1.1.1, rfl⟩, rfl⟩, rfl⟩

theorem PanelUnit.Sound.latch (sound : u.Sound) (boots : u.state = .waking ∨ u.state = .sleeping) :
    ({ u with latched := true } : PanelUnit).Sound := by
  obtain ⟨run, linger, fault, input, service, stream⟩ := sound
  refine ⟨run, linger, fault, input, ?_, stream⟩
  simp only [PanelUnit.serviceSound, Bool.and_eq_true] at service ⊢
  refine ⟨⟨⟨?_, service.1.1.2⟩, service.1.2⟩, service.2⟩
  rcases boots with state | state <;> simp [state]

theorem PanelWork.attend_sound (sound : u.Sound) : (PanelWork.attend env ⟨u, false, none⟩).Sound := by
  have counted : ({ u with attentions := Count.bump u.attentions } : PanelUnit).Sound := sound
  have served (streams : u.state.streams = true) :
      (PanelWork.askCheck env ⟨{ u with attentions := Count.bump u.attentions }, false, none⟩).Sound :=
    PanelWork.askCheck_sound env rfl counted streams
  simp only [PanelWork.attend]
  split
  case h_1 state | h_2 state =>
    split
    · exact counted
    · exact served (by simp [state, PanelState.streams])
  case h_3 state => exact counted.latch (.inl state)
  case h_4 state => exact counted.latch (.inr state)
  all_goals exact counted

theorem PanelUnit.Sound.idle_of_linger (sound : u.Sound) {t : Nat} (timer : u.linger = .running t) :
    u.state = .idle ∧ u.IdleRest ∧ ∀ r, u.run = some r → r.Of .check := by
  rw [PanelUnit.sound_iff, PanelUnit.FitsState] at sound
  cases state : u.state <;> rw [state] at sound
  case idle => exact ⟨rfl, sound.1, sound.2.2⟩
  all_goals cases timer.symm.trans sound.1.linger

theorem PanelWork.lingerExpires_sound (sound : u.Sound) {t : Nat} (timer : u.linger = .running t) :
    (PanelWork.lingerExpires env ⟨u, false, none⟩).Sound := by
  obtain ⟨state, rest, runs⟩ := sound.idle_of_linger timer
  have unwanted : ¬ u.wantedIn = true := fun wanted => by cases timer.symm.trans (rest.linger.mpr wanted)
  unfold PanelWork.lingerExpires
  split
  · next running =>
    have held : ({ u with linger := .held } : PanelUnit).IdleRest :=
      ⟨rest.steady.of_standing rfl, iff_of_false nofun unwanted, rest.demand, rest.latched, rest.layers, rest.rows⟩
    exact held.sound state (fun _ => running) runs
  · exact PanelWork.putToSleep_ready (w := ⟨u, false, none⟩) env rest.steady sound.layers

theorem PanelWork.restart_sound (sound : u.Sound) (faulted : u.state = .fault) :
    (PanelWork.restart env ⟨u, false, none⟩).Sound := by
  have layers := sound.layers
  have inputs := sound.agrees.inputs
  obtain ⟨rest, run⟩ := (PanelUnit.sound_fault faulted).mp sound
  simp only [PanelWork.restart]
  generalize cleared : ({ u with faultRecord := none, recoveryCount := 0, recoveryWindow := none } : PanelUnit) = v
  have steady : v.Steady := by
    rw [← cleared]
    exact ⟨⟨inputs, rfl, Nat.zero_le _⟩, rfl, Nat.zero_le _⟩
  have layers' : v.layersEnabled = true → v.state = .live := by
    rw [← cleared]
    exact layers
  split
  · exact PanelWork.wake_sound (w := ⟨v, false, none⟩) env steady layers'
  · next unwanted =>
    have dark := PanelWork.enter_boot (w := ⟨v, false, none⟩) (new := .dark) env rfl steady layers'
    refine PanelWork.sound_of_none rfl ((PanelUnit.sound_dark rfl).mpr
      ⟨⟨dark.steady, dark.unlit, dark.linger, ?_, ?_⟩, ?_⟩)
    · show v.wantedIn = false
      rw [← cleared]
      exact Bool.eq_false_iff.mpr unwanted
    · show v.latched = false
      rw [← cleared]
      exact rest.latched
    · show v.run = none
      rw [← cleared]
      exact run

theorem PanelEvent.sound {c : Instr} {w : PanelWork} (event : PanelEvent c env u w) (sound : u.Sound) : w.Sound := by
  cases event with
  | rests => exact sound
  | attended => exact PanelWork.attend_sound sound
  | lingerExpired timer => exact PanelWork.lingerExpires_sound sound timer
  | windowClosed => exact sound.closeWindow
  | restarted command faulted => exact PanelWork.restart_sound sound faulted
  | stopped running =>
    exact PanelWork.sound_of_none rfl
      (PanelWork.fault_sound (w := ⟨u, false, none⟩) env sound.agrees sound.layers ⟨running, rfl⟩)
  | checked streams idle => exact PanelWork.askCheck_sound env rfl sound streams
  | @rephased r running phase packet cut =>
    obtain ⟨ready, ofSlot⟩ := sound.ready running
    exact ready.withRun none _ _ packet cut _ { r with phase := phase } ofSlot
  | stepped running leaves => exact leaves.sound env rfl (sound.ready running).1

/-! ## Change events keep a panel sound (R131) -/

theorem PanelUnit.Steady.withInputs (steady : u.Steady) {pair : Want} (inputs : pair.demand = true → pair.wanted = true) :
    ({ u with demandIn := pair.demand, wantedIn := pair.wanted } : PanelUnit).Steady :=
  ⟨⟨inputs, steady.window, steady.few⟩, steady.faultRecord, steady.fewer⟩

/-- A change event, once the inputs are replaced (R131). -/
theorem PanelWork.change_eq {v : PanelUnit} {pair : Want}
    (given : ({ u with demandIn := pair.demand, wantedIn := pair.wanted } : PanelUnit) = v) :
    PanelWork.change env pair ⟨u, false, none⟩ = match v.state with
      | .dark => if pair.wanted then PanelWork.wake env ⟨v, false, none⟩ else ⟨v, false, none⟩
      | .live => if pair.demand then ⟨v, false, none⟩
          else (PanelWork.enter env .idle ⟨v, false, none⟩).lingerFor env pair.wanted
      | .idle => if pair.demand then PanelWork.enter env .live ⟨v, false, none⟩
          else PanelWork.lingerFor env pair.wanted ⟨v, false, none⟩
      | .waking | .sleeping | .fault => ⟨v, false, none⟩ := by
  subst given
  rfl

theorem PanelWork.change_sound (sound : u.Sound) {pair : Want} (inputs : pair.demand = true → pair.wanted = true) :
    (PanelWork.change env pair ⟨u, false, none⟩).Sound := by
  obtain ⟨v, given⟩ : ∃ v, ({ u with demandIn := pair.demand, wantedIn := pair.wanted } : PanelUnit) = v := ⟨_, rfl⟩
  rw [PanelWork.change_eq given]
  have kept : v.state = u.state ∧ v.linger = u.linger ∧ v.latched = u.latched ∧ v.run = u.run := by
    rw [← given]
    exact ⟨rfl, rfl, rfl, rfl⟩
  obtain ⟨state, linger, latched, run⟩ := kept
  have demand : v.demandIn = pair.demand := by rw [← given]
  have wanted : v.wantedIn = pair.wanted := by rw [← given]
  have unlit (h : u.Unlit) : v.Unlit := by rw [← given]; exact h
  have layers : v.layersEnabled = true → v.state = .live := by rw [← given]; exact sound.layers
  have steady (h : u.Steady) : v.Steady := by rw [← given]; exact h.withInputs inputs
  split
  case h_1 dark =>
    obtain ⟨rest, stands⟩ := (PanelUnit.sound_dark (state.symm.trans dark)).mp sound
    split
    · exact PanelWork.wake_sound env (steady rest.steady) layers
    · next unwanted =>
      exact PanelWork.sound_of_none rfl ((PanelUnit.sound_dark dark).mpr ⟨⟨steady rest.steady, unlit rest.unlit,
        linger.trans rest.linger, wanted.trans (Bool.eq_false_iff.mpr unwanted), latched.trans rest.latched⟩,
        run.trans stands⟩)
  case h_2 live =>
    obtain ⟨rest, runs⟩ := (PanelUnit.sound_live (state.symm.trans live)).mp sound
    rw [← run] at runs
    split
    · next demanded =>
      refine PanelWork.sound_of_none rfl ((PanelUnit.sound_live live).mpr ⟨⟨steady rest.steady, linger.trans rest.linger,
        demand.trans demanded, latched.trans rest.latched, ?_⟩, runs⟩)
      rw [← given]
      exact rest.rows
    · next idle =>
      rw [← wanted]
      exact PanelWork.lingerFor_sound (w := PanelWork.enter env .idle ⟨v, false, none⟩) env rfl rfl runs fun linger timer =>
        PanelWork.enter_idle env (steady rest.steady) layers (demand.trans (Bool.eq_false_iff.mpr idle))
          (latched.trans rest.latched) linger timer
  case h_3 idle =>
    obtain ⟨rest, -, runs⟩ := (PanelUnit.sound_idle (state.symm.trans idle)).mp sound
    rw [← run] at runs
    split
    · next demanded =>
      exact PanelWork.sound_of_none rfl ((PanelUnit.sound_live rfl).mpr ⟨PanelWork.enter_live env (steady rest.steady)
        layers (demand.trans demanded) (latched.trans rest.latched), runs⟩)
    · next unwanted =>
      rw [← wanted]
      refine PanelWork.lingerFor_sound (w := ⟨v, false, none⟩) env rfl idle runs fun linger timer =>
        ⟨(steady rest.steady).of_standing rfl, timer, demand.trans (Bool.eq_false_iff.mpr unwanted),
          latched.trans rest.latched, ?_, ?_⟩
      · rw [← given]
        exact rest.layers
      · rw [← given]
        exact rest.rows
  case h_4 waking =>
    obtain ⟨rest, runs⟩ := (PanelUnit.sound_waking (state.symm.trans waking)).mp sound
    rw [← run] at runs
    exact PanelWork.sound_of_none rfl ((PanelUnit.sound_waking waking).mpr
      ⟨⟨steady rest.steady, unlit rest.unlit, linger.trans rest.linger⟩, runs⟩)
  case h_5 sleeping =>
    obtain ⟨rest, runs⟩ := (PanelUnit.sound_sleeping (state.symm.trans sleeping)).mp sound
    rw [← run] at runs
    exact PanelWork.sound_of_none rfl ((PanelUnit.sound_sleeping sleeping).mpr
      ⟨⟨steady rest.steady, unlit rest.unlit, linger.trans rest.linger⟩, runs⟩)
  case h_6 fault =>
    obtain ⟨rest, stands⟩ := (PanelUnit.sound_fault (state.symm.trans fault)).mp sound
    refine PanelWork.sound_of_none rfl ((PanelUnit.sound_fault fault).mpr ⟨?_, run.trans stands⟩)
    rw [← given]
    exact ⟨⟨inputs, rest.agrees.window, rest.agrees.few⟩, rest.unlit, rest.linger, rest.latched, rest.reset, rest.power,
      rest.record⟩

end

end Sys2Proof.Machine
end

section
/-! PROOFS. What a panel's work in one event cannot change: inputs, counters and the rows already sent (chapters 6 to 8). -/

namespace Sys2Proof.Machine

/-! ## What an event leaves of a panel, whatever its script -/

/-- `v` comes of `u` in an event: inputs and attention line kept, counters not smaller, and the running frame's rows turned
at most from the given row on (R77, R124, R131, R150). -/
structure PanelUnit.Evolves (row : Nat) (u v : PanelUnit) : Prop where
  demandIn : v.demandIn = u.demandIn
  wantedIn : v.wantedIn = u.wantedIn
  attentionLine : v.attentionLine = u.attentionLine
  layers : u.layersEnabled = false → v.layersEnabled = false
  attentions : u.attentions.toNat ≤ v.attentions.toNat
  recoveries : u.recoveries.toNat ≤ v.recoveries.toNat
  faultEntries : u.faultEntries.toNat ≤ v.faultEntries.toNat
  rows : ∃ turns : List Segment, v.frameRows = turns ++ u.frameRows ∧ ∀ g ∈ turns, g.fromRow = row

/-- The part of a unit that `Evolves` speaks of. -/
def PanelUnit.lasting (u : PanelUnit) : Bool × Bool × Bool × Bool × Count × Count × Count × List Segment :=
  (u.demandIn, u.wantedIn, u.attentionLine, u.layersEnabled, u.attentions, u.recoveries, u.faultEntries, u.frameRows)

section
variable {row : Nat} {u v : PanelUnit}

theorem PanelUnit.Evolves.of_lasting (same : v.lasting = u.lasting) : PanelUnit.Evolves row u v := by
  simp only [PanelUnit.lasting, Prod.mk.injEq] at same
  obtain ⟨demand, wanted, line, layers, attentions, recoveries, faults, rows⟩ := same
  exact ⟨demand, wanted, line, fun off => layers.trans off, attentions ▸ le_rfl, recoveries ▸ le_rfl, faults ▸ le_rfl, [], rows, nofun⟩

theorem PanelUnit.Evolves.trans {t : PanelUnit} (first : PanelUnit.Evolves row u v) (second : PanelUnit.Evolves row v t) :
    PanelUnit.Evolves row u t := by
  obtain ⟨turns, rows, from_⟩ := first.rows
  obtain ⟨turns', rows', from'⟩ := second.rows
  refine ⟨second.demandIn.trans first.demandIn, second.wantedIn.trans first.wantedIn,
    second.attentionLine.trans first.attentionLine, fun off => second.layers (first.layers off), first.attentions.trans second.attentions,
    first.recoveries.trans second.recoveries, first.faultEntries.trans second.faultEntries, turns' ++ turns, ?_, ?_⟩
  · rw [rows', rows, List.append_assoc]
  · intro g turned
    exact (List.mem_append.mp turned).elim (from' g) (from_ g)

theorem rowsAfter_turns (new : PanelState) (rows : List Segment) :
    ∃ turns, rowsAfter row new rows = turns ++ rows ∧ ∀ g ∈ turns, g.fromRow = row := by
  cases rows with
  | nil => exact ⟨[], rfl, nofun⟩
  | cons g rest =>
    by_cases off : g.content = .off
    · exact ⟨[], by simp [rowsAfter, off], nofun⟩
    · refine ⟨[⟨row, new.rowsToCome⟩], ?_, by simp⟩
      cases new <;> simp [rowsAfter, off, PanelState.rowsToCome]

end

section
variable (env : PanelEnv) (w : PanelWork)

/-- The unit of the work comes of the unit before. -/
def PanelWork.EvolvesTo (env : PanelEnv) (w v : PanelWork) : Prop := PanelUnit.Evolves env.nextRow w.unit v.unit

theorem PanelWork.EvolvesTo.trans {env : PanelEnv} {w t : PanelWork} (v : PanelWork) (first : w.EvolvesTo env v)
    (second : v.EvolvesTo env t) : w.EvolvesTo env t := PanelUnit.Evolves.trans first second

theorem PanelWork.EvolvesTo.of_lasting {env : PanelEnv} {w v : PanelWork} (same : v.unit.lasting = w.unit.lasting) :
    w.EvolvesTo env v := PanelUnit.Evolves.of_lasting same

theorem PanelWork.enter_evolves (new : PanelState) : w.EvolvesTo env (w.enter env new) := by
  refine ⟨rfl, rfl, rfl, fun off => ?_, le_rfl, le_rfl, le_rfl, rowsAfter_turns new w.unit.frameRows⟩
  simp [PanelWork.enter, off]

theorem PanelWork.fault_evolves (kind : FaultKind) (step : Option (ScriptSlot × StepIndex × StepKind))
    (error : Option StepError) : w.EvolvesTo env (w.fault env kind step error) := by
  have entered := w.enter_evolves env .fault
  exact ⟨entered.demandIn, entered.wantedIn, entered.attentionLine, entered.layers, entered.attentions, entered.recoveries,
    Count.le_bump _, entered.rows⟩

theorem PanelWork.putToSleep_evolves : w.EvolvesTo env (w.putToSleep env) := w.enter_evolves env .sleeping

theorem PanelWork.wake_evolves : w.EvolvesTo env (w.wake env) := w.enter_evolves env .waking

theorem PanelWork.askCheck_evolves : w.EvolvesTo env (w.askCheck env) := by
  unfold PanelWork.askCheck
  split <;> exact .of_lasting rfl

theorem PanelWork.lingerExpires_evolves : w.EvolvesTo env (w.lingerExpires env) := by
  unfold PanelWork.lingerExpires
  split
  · exact .of_lasting rfl
  · exact w.putToSleep_evolves env

theorem PanelWork.lingerFor_evolves (wanted : Bool) : w.EvolvesTo env (w.lingerFor env wanted) := by
  unfold PanelWork.lingerFor PanelWork.startLinger
  split <;> [skip; split]
  · exact .of_lasting rfl
  · exact w.lingerExpires_evolves env
  · exact .of_lasting rfl

theorem PanelWork.serveLatched_evolves : w.EvolvesTo env (w.serveLatched env) := by
  have cleared : w.EvolvesTo env w.unlatch := .of_lasting rfl
  simp only [PanelWork.serveLatched]
  split
  · exact cleared.trans _ (PanelWork.askCheck_evolves env _)
  · exact cleared

theorem PanelWork.wakeSucceeds_evolves : w.EvolvesTo env (w.wakeSucceeds env) := by
  unfold PanelWork.wakeSucceeds
  refine .trans _ ?_ (PanelWork.serveLatched_evolves env _)
  split
  · exact w.enter_evolves env .live
  · exact (w.enter_evolves env .idle).trans _ (PanelWork.lingerFor_evolves env _ _)

theorem PanelWork.sleepSucceeds_evolves : w.EvolvesTo env (w.sleepSucceeds env) := by
  have dark : w.EvolvesTo env (w.unlatch.enter env .dark) :=
    .trans w.unlatch (.of_lasting rfl) (w.unlatch.enter_evolves env .dark)
  simp only [PanelWork.sleepSucceeds]
  split
  · exact dark.trans _ (PanelWork.wake_evolves env _)
  · exact dark

theorem PanelWork.checkSucceeds_evolves : w.EvolvesTo env (w.checkSucceeds env) := by
  unfold PanelWork.checkSucceeds
  split
  · exact w.putToSleep_evolves env
  · exact .of_lasting rfl

theorem PanelWork.checkFails_evolves (f : StepFailure) : w.EvolvesTo env (w.checkFails env f) := by
  have counted : w.EvolvesTo env { w.removeLinger with unit := w.removeLinger.unit.countRecovery env.now } := by
    rw [PanelUnit.countRecovery_frame]
    exact .of_lasting rfl
  simp only [PanelWork.checkFails]
  split
  · exact counted.trans _ (PanelWork.fault_evolves env _ _ _ _)
  · refine .trans _ ?_ (PanelWork.wake_evolves env _)
    exact ⟨counted.demandIn, counted.wantedIn, counted.attentionLine, counted.layers, counted.attentions,
      (PanelUnit.Evolves.recoveries counted).trans (Count.le_bump _), counted.faultEntries, counted.rows⟩

theorem PanelWork.completed_evolves (slot : ScriptSlot) (failure : Option StepFailure) :
    w.EvolvesTo env (w.completed env slot failure) := by
  refine .trans { w with unit := { w.unit with run := none } } (.of_lasting rfl) ?_
  unfold PanelWork.completed
  generalize ({ w with unit := { w.unit with run := none } } : PanelWork) = v
  have asked (t : PanelWork) (evolves : v.EvolvesTo env t) : v.EvolvesTo env t.askedByCompletion := evolves
  refine asked _ ?_
  split
  · exact v.wakeSucceeds_evolves env
  · exact v.sleepSucceeds_evolves env
  · exact v.checkSucceeds_evolves env
  · exact v.checkFails_evolves env _
  · exact v.fault_evolves env _ _ _

theorem RunLeaves.evolves {slot : ScriptSlot} {env : PanelEnv} {w v : PanelWork} (leaves : RunLeaves env slot w v) :
    w.EvolvesTo env v := by
  cases leaves with
  | waits => exact .of_lasting rfl
  | completes run reset power tolerated failure =>
    exact .trans { w with unit := { w.unit with
        run := run, resetAsserted := reset, powerAsserted := power, tolerated := tolerated } } (.of_lasting rfl)
      (PanelWork.completed_evolves env _ slot failure)

theorem PanelWork.settle_evolves (n : Nat) : w.EvolvesTo env (w.settle env n) := by
  induction n generalizing w with
  | zero => exact .of_lasting rfl
  | succ n ih =>
    rcases asked : w.request with _ | q
    · rw [PanelWork.settle_none asked]
      exact .of_lasting rfl
    · rw [PanelWork.settle_some asked]
      exact (PanelWork.startRun_leaves env q { w with request := none }).evolves.trans _ (ih _)

theorem PanelEvent.evolves {c : Instr} {u : PanelUnit} {env : PanelEnv} {w : PanelWork} (event : PanelEvent c env u w) :
    PanelUnit.Evolves env.nextRow u w.unit := by
  cases event with
  | rests => exact .of_lasting rfl
  | attended =>
    have counted : PanelUnit.Evolves env.nextRow u { u with attentions := Count.bump u.attentions } :=
      ⟨rfl, rfl, rfl, id, Count.le_bump _, le_rfl, le_rfl, [], rfl, nofun⟩
    refine counted.trans ?_
    simp only [PanelWork.attend]
    split
    case h_1 | h_2 =>
      split
      · exact .of_lasting rfl
      · exact PanelWork.askCheck_evolves env ⟨_, false, none⟩
    all_goals exact .of_lasting rfl
  | lingerExpired => exact PanelWork.lingerExpires_evolves env ⟨u, false, none⟩
  | windowClosed => exact .of_lasting rfl
  | restarted =>
    have cleared : PanelUnit.Evolves env.nextRow u
        { u with faultRecord := none, recoveryCount := 0, recoveryWindow := none } := .of_lasting rfl
    refine cleared.trans ?_
    simp only [PanelWork.restart]
    split
    · exact PanelWork.wake_evolves env ⟨_, false, none⟩
    · exact PanelWork.enter_evolves env ⟨_, false, none⟩ .dark
  | stopped => exact PanelWork.fault_evolves env ⟨u, false, none⟩ _ _ _
  | checked => exact PanelWork.askCheck_evolves env ⟨u, false, none⟩
  | rephased => exact .of_lasting rfl
  | stepped running leaves => exact leaves.evolves

theorem PanelWork.change_evolves {env : PanelEnv} {u : PanelUnit} (pair : Want) :
    PanelUnit.Evolves env.nextRow { u with demandIn := pair.demand, wantedIn := pair.wanted }
      (PanelWork.change env pair ⟨u, false, none⟩).unit := by
  rw [PanelWork.change_eq rfl]
  split <;> [split; split; split; skip; skip; skip]
  · exact PanelWork.wake_evolves env ⟨_, false, none⟩
  · exact .of_lasting rfl
  · exact .of_lasting rfl
  · exact (PanelWork.enter_evolves env ⟨_, false, none⟩ .idle).trans _ (PanelWork.lingerFor_evolves env _ _)
  · exact PanelWork.enter_evolves env ⟨_, false, none⟩ .live
  · exact PanelWork.lingerFor_evolves env ⟨_, false, none⟩ _
  all_goals exact .of_lasting rfl

end

end Sys2Proof.Machine
end

section
/-! PROOFS. The Hinge Unit (chapter 1): the filter step (O18), the parts of a sample completion one by one (O19, O20), the
events of a sample (O14 to O16) and the two settings commands (O21). -/

namespace Sys2Proof.Machine

/-! ## The filter (R7) -/

/-- The movement of one filter step: the quotient truncated toward zero, or one unit when that is 0. -/
def filterMove (shift : Nat) (d : Int) : Int := if d.tdiv (2 ^ shift) = 0 then d.sign else d.tdiv (2 ^ shift)

theorem tdiv_pow_eq_zero_iff (k : Nat) (d : Int) : d.tdiv (2 ^ k) = 0 ↔ d.natAbs < 2 ^ k := by
  have abs : (d.tdiv (2 ^ k)).natAbs = d.natAbs / 2 ^ k := by
    rw [Int.natAbs_tdiv, Int.natAbs_pow]
    rfl
  rw [← Int.natAbs_eq_zero, abs, Nat.div_eq_zero_iff]
  simp

theorem filterMove_toward (k : Nat) (d : Int) :
    (d = 0 → filterMove k d = 0) ∧ (0 < d → 0 < filterMove k d ∧ filterMove k d ≤ d) ∧
      (d < 0 → d ≤ filterMove k d ∧ filterMove k d < 0) := by
  have power : (0 : Int) < 2 ^ k := by positivity
  unfold filterMove
  refine ⟨fun still => by simp [still], fun up => ?_, fun down => ?_⟩
  · split
    · rw [Int.sign_eq_one_of_pos up]
      omega
    · next moves =>
      have nonneg : 0 ≤ d.tdiv (2 ^ k) := Int.tdiv_nonneg up.le power.le
      have within : d.tdiv (2 ^ k) ≤ d := Int.tdiv_le_self _ up.le
      omega
  · split
    · rw [Int.sign_eq_neg_one_of_neg down]
      omega
    · next moves =>
      have opposite : (-d).tdiv (2 ^ k) = -d.tdiv (2 ^ k) := Int.neg_tdiv ..
      have nonneg : 0 ≤ (-d).tdiv (2 ^ k) := Int.tdiv_nonneg (by omega) power.le
      have within : (-d).tdiv (2 ^ k) ≤ -d := Int.tdiv_le_self _ (by omega)
      omega

/-- The filter never leaves 0, so that its step is the movement (R7). -/
theorem filterStep_eq (k a f : Nat) : (filterStep k a f : Int) = f + filterMove k ((a : Int) * 256 - f) := by
  have toward := filterMove_toward k ((a : Int) * 256 - f)
  have step : filterStep k a f = ((f : Int) + filterMove k ((a : Int) * 256 - f)).toNat := rfl
  rw [step]
  omega

theorem filterStep_le {k a f : Nat} (angle : a ≤ 3600) (filter : f ≤ 921600) : filterStep k a f ≤ 921600 := by
  have toward := filterMove_toward k ((a : Int) * 256 - f)
  have step := filterStep_eq k a f
  omega

theorem reportedOf_rounds (f : Nat) : 256 * reportedOf f ≤ f + 128 ∧ f + 128 < 256 * (reportedOf f + 1) := by
  unfold reportedOf
  omega

theorem reportedOf_le {f : Nat} (filter : f ≤ 921600) : reportedOf f ≤ 3600 := by
  unfold reportedOf
  omega

/-! ## The parts of a sample completion (R9) -/

section
variable (straps : Straps) (sm : Sample) (h : Hinge)

/-- The pivots updated and the sample counted (R2, R3). -/
def Hinge.taken : Hinge := ({ h with sample := none }).updatePivots sm

/-- Then the capture's accumulation (R17). -/
def Hinge.gathered : HingeWork := HingeWork.accumulate sm ⟨h.taken sm, false, false⟩

/-- Then deltas, skew and instantaneous angle (R4 to R6). -/
def Hinge.judged : HingeWork := { h.gathered sm with unit := ((h.gathered sm).unit.measure straps sm).1 }

/-- This sample's angle, if it produces one. -/
def Hinge.angleOf : Option Nat := ((h.gathered sm).unit.measure straps sm).2

/-- Then the angle state (R10 to R13). -/
def Hinge.handled : HingeWork := (h.judged straps sm).handleAngle sm (h.angleOf straps sm)

theorem Hinge.complete_eq : h.complete straps sm = (h.handled straps sm).endCapture := rfl

/-- A measurement touches what R4 to R6 record, and nothing else. -/
theorem Hinge.measure_frame : ∃ dl cl dr cr i k n o, (h.measure straps sm).1 = { h with
    left := { h.left with delta := dl, clamped := cl }, right := { h.right with delta := dr, clamped := cr }
    instant := i, skew := k, skewRun := n, overLimit := o } := by
  unfold Hinge.measure
  split
  · next rawL rawR _ _ =>
    obtain ⟨k, n, o, judged⟩ := (h.recordDeltas (signedDelta straps.pola h.left.zero rawL)
      (signedDelta straps.polb h.right.zero rawR)).judgeSkew_frame (sm.left.isFresh && sm.right.isFresh)
        (signedDelta straps.pola h.left.zero rawL) (signedDelta straps.polb h.right.zero rawR)
    exact ⟨_, _, _, _, _, k, n, o, judged⟩
  · exact ⟨_, _, _, _, _, _, _, _, rfl⟩

/-- Before the angle state is handled: what R3 to R6 record, the capture and its result apart, is all that has changed. -/
theorem Hinge.judged_frame : ∃ dl cl dr cr i k n o c r, (h.judged straps sm).unit = { h with
    left := { h.left.update sm.left with delta := dl, clamped := cl }
    right := { h.right.update sm.right with delta := dr, clamped := cr }
    instant := i, skew := k, skewRun := n, overLimit := o, capture := c, lastResult := r
    sample := none, samples := Count.bump h.samples } := by
  obtain ⟨c, r, gathered⟩ := HingeWork.accumulate_unit sm ⟨h.taken sm, false, false⟩
  obtain ⟨dl, cl, dr, cr, i, k, n, o, measured⟩ := Hinge.measure_frame straps sm (h.gathered sm).unit
  refine ⟨dl, cl, dr, cr, i, k, n, o, c, r, measured.trans ?_⟩
  rw [Hinge.gathered, gathered]
  rfl

theorem HingeWork.endCapture_frame (w : HingeWork) : ∃ zl zr p c r d, w.endCapture = { w with
    unit := { w.unit with
      left := { w.unit.left with zero := zl }, right := { w.unit.right with zero := zr }
      seedPending := p, capture := c, lastResult := r }
    calDone := d } := by
  unfold HingeWork.endCapture
  split
  · exact ⟨_, _, _, _, _, _, rfl⟩
  · exact ⟨_, _, _, _, _, _, rfl⟩

/-- A capture's end that stores zeros tells so (R18). -/
theorem HingeWork.endCapture_eq_of_no_zeros {w : HingeWork}
    (noZeros : w.endCapture.calDone = false ∨ w.endCapture.unit.lastResult = .failed) : w.endCapture = w := by
  unfold HingeWork.endCapture at noZeros ⊢
  split
  · next ends =>
    simp [ends] at noZeros
  · rfl

theorem HingeWork.endCapture_of_not_sixteen {w : HingeWork} (fewer : ∀ l r, w.unit.capture ≠ some (.counting 16 l r)) :
    w.endCapture = w := by
  unfold HingeWork.endCapture
  split
  · next ends => exact absurd ends (fewer _ _)
  · rfl

end

/-! ## The angle state (R8, R10 to R13) -/

section
variable {w : HingeWork} {sm : Sample} {angle : Option Nat} {a f n : Nat} {g : AngleFaults}

theorem HingeWork.handleAngle_acquiring (state : w.unit.angle = .acquiring) : w.handleAngle sm none = w := by
  simp only [HingeWork.handleAngle, state]

theorem HingeWork.handleAngle_seeds (state : w.unit.angle = .acquiring) :
    w.handleAngle sm (some a) = { w with unit := w.unit.seed a } := by
  simp only [HingeWork.handleAngle, state]

theorem HingeWork.handleAngle_faults (state : w.unit.angle = .tracking f) (faults : w.unit.conditions.any = true) :
    w.handleAngle sm angle = { w with
      unit := { w.unit with angle := .faulted f w.unit.conditions 0, faultEntries := Count.bump w.unit.faultEntries }
      angleFault := true } := by
  simp only [HingeWork.handleAngle, state, faults, if_true]

theorem HingeWork.handleAngle_tracks (state : w.unit.angle = .tracking f) (sound : w.unit.conditions.any = false) :
    w.handleAngle sm (some a) =
      { w with unit := if w.unit.seedPending then w.unit.seed a
                       else { w.unit with angle := .tracking (filterStep w.unit.shift a f) } } := by
  simp only [HingeWork.handleAngle, state, sound, Bool.false_eq_true, if_false]
  split <;> rfl

theorem HingeWork.handleAngle_holds (state : w.unit.angle = .tracking f) (sound : w.unit.conditions.any = false) :
    w.handleAngle sm none = w := by
  simp only [HingeWork.handleAngle, state, sound, Bool.false_eq_true, if_false]

/-- The clean samples counted in FAULTED (R12). -/
def Hinge.cleanCount (sm : Sample) (n : Nat) (h : Hinge) : Nat := if h.isClean sm then n + 1 else 0

theorem HingeWork.handleAngle_recovers (state : w.unit.angle = .faulted f g n) (clean : 8 ≤ w.unit.cleanCount sm n) :
    w.handleAngle sm (some a) = { w with unit := w.unit.seed a, angleFault := true } := by
  simp only [HingeWork.handleAngle, state]
  exact if_pos clean

/-- FAULTED goes on: conditions gathered, clean samples counted (R11, R12). -/
def HingeWork.staysFaulted (sm : Sample) (f : Nat) (g : AngleFaults) (n : Nat) (w : HingeWork) : HingeWork :=
  { w with unit := { w.unit with angle := .faulted f (g.union w.unit.conditions) (w.unit.cleanCount sm n) } }

theorem HingeWork.handleAngle_stays (state : w.unit.angle = .faulted f g n) (few : w.unit.cleanCount sm n < 8) :
    w.handleAngle sm (some a) = w.staysFaulted sm f g n := by
  simp only [HingeWork.handleAngle, state]
  exact if_neg (Nat.not_le.mpr few)

theorem HingeWork.handleAngle_stays_none (state : w.unit.angle = .faulted f g n) :
    w.handleAngle sm none = w.staysFaulted sm f g n := by
  simp only [HingeWork.handleAngle, state]
  rfl

end

/-! ## What a sample completion leaves of the angle -/

section
variable (straps : Straps) (sm : Sample) (h : Hinge)

theorem HingeWork.accumulate_angleFault (w : HingeWork) : (w.accumulate sm).angleFault = w.angleFault := by
  unfold HingeWork.accumulate
  split <;> [skip; split <;> [skip; split]] <;> rfl

/-- What the angle state is judged by: its own fields as before the sample. -/
theorem Hinge.judged_angle : (h.judged straps sm).unit.angle = h.angle ∧
    (h.judged straps sm).unit.seedPending = h.seedPending ∧ (h.judged straps sm).unit.shift = h.shift ∧
    (h.judged straps sm).unit.skewLimit = h.skewLimit ∧ (h.judged straps sm).unit.faultEntries = h.faultEntries ∧
    (h.judged straps sm).angleFault = false := by
  obtain ⟨dl, cl, dr, cr, i, k, n, o, c, r, judged⟩ := h.judged_frame straps sm
  refine ⟨?_, ?_, ?_, ?_, ?_, HingeWork.accumulate_angleFault sm _⟩ <;> rw [judged]

/-- The angle state, its flag and its counter come from the handling of the angle; seed pending too, unless the sample ends
a capture with new zeros. -/
theorem Hinge.complete_angle :
    (h.complete straps sm).unit.angle = (h.handled straps sm).unit.angle ∧
    (h.complete straps sm).angleFault = (h.handled straps sm).angleFault ∧
    (h.complete straps sm).unit.faultEntries = (h.handled straps sm).unit.faultEntries ∧
    ((h.complete straps sm).calDone = false ∨ (h.complete straps sm).unit.lastResult = .failed →
      (h.complete straps sm).unit.seedPending = (h.handled straps sm).unit.seedPending) := by
  obtain ⟨zl, zr, p, c, r, d, ended⟩ := (h.handled straps sm).endCapture_frame
  have whole := h.complete_eq straps sm
  refine ⟨?_, ?_, ?_, fun noZeros => ?_⟩
  · rw [whole, ended]
  · rw [whole, ended]
  · rw [whole, ended]
  · rw [whole] at noZeros ⊢
    rw [HingeWork.endCapture_eq_of_no_zeros noZeros]

/-- The rest of the Hinge Unit after a completion is as it was judged, the zeros and the capture apart. -/
theorem Hinge.complete_frame : ∃ zl zr p c r a n, (h.complete straps sm).unit = { (h.judged straps sm).unit with
    left := { (h.judged straps sm).unit.left with zero := zl }
    right := { (h.judged straps sm).unit.right with zero := zr }
    seedPending := p, capture := c, lastResult := r, angle := a, faultEntries := n } := by
  obtain ⟨zl, zr, p, c, r, d, ended⟩ := (h.handled straps sm).endCapture_frame
  obtain ⟨a, p', n, handled⟩ := (h.judged straps sm).handleAngle_unit sm (h.angleOf straps sm)
  refine ⟨zl, zr, p, c, r, a, n, ?_⟩
  rw [h.complete_eq straps sm, ended, Hinge.handled, handled]

theorem Hinge.complete_conditions :
    (h.judged straps sm).unit.conditions = (h.complete straps sm).unit.conditions := by
  obtain ⟨zl, zr, p, c, r, a, n, frame⟩ := h.complete_frame straps sm
  rw [frame]
  rfl

variable {sm h} {rawL rawR : RawCount}

/-- The gathered unit has each pivot's last good raw as its read leaves it. -/
theorem Hinge.gathered_pivots (sm : Sample) (h : Hinge) :
    (h.gathered sm).unit.left = h.left.update sm.left ∧ (h.gathered sm).unit.right = h.right.update sm.right := by
  obtain ⟨c, r, gathered⟩ := HingeWork.accumulate_unit sm ⟨h.taken sm, false, false⟩
  rw [Hinge.gathered, gathered]
  exact ⟨rfl, rfl⟩

theorem Hinge.angleOf_of_produces (produces : h.produces sm rawL rawR) : h.angleOf straps sm =
    some (foldAngle (clampDelta (signedDelta straps.pola h.left.zero rawL))
      (clampDelta (signedDelta straps.polb h.right.zero rawR))) := by
  obtain ⟨good, good'⟩ := produces
  obtain ⟨left, right⟩ := h.gathered_pivots sm
  unfold Hinge.angleOf Hinge.measure
  rw [left, right, good, good']
  simp only [PivotState.update_zero]

theorem Hinge.measure_of_missing (straps : Straps) (sm : Sample) {h : Hinge}
    (missing : h.left.lastGood = none ∨ h.right.lastGood = none) : h.measure straps sm = (h, none) := by
  unfold Hinge.measure
  split
  · next good good' => simp [good, good'] at missing
  · rfl

/-- Without an angle from this sample a pivot has had no good reading yet. -/
theorem Hinge.missing_of_not_produces (silent : ∀ rawL rawR, ¬ h.produces sm rawL rawR) :
    (h.left.update sm.left).lastGood = none ∨ (h.right.update sm.right).lastGood = none := by
  by_contra! both
  obtain ⟨⟨rawL, left⟩, ⟨rawR, right⟩⟩ := both.imp Option.ne_none_iff_exists'.mp Option.ne_none_iff_exists'.mp
  exact silent rawL rawR ⟨left, right⟩

/-- A pivot without a good reading yet has not been read fresh. -/
theorem PivotState.stale_of_missing {r r' : Reading} {p p' : PivotState}
    (missing : (p.update r).lastGood = none ∨ (p'.update r').lastGood = none) : (r.isFresh && r'.isFresh) = false := by
  rcases missing with missing | missing
  · cases r <;> simp [PivotState.update, Reading.isFresh] at missing ⊢
  · cases r' <;> simp [PivotState.update, Reading.isFresh] at missing ⊢

/-- In a sample with both pivots fresh, clean means a skew within the limit (R12). -/
theorem Hinge.isClean_iff (produces : h.produces sm rawL rawR) : (h.judged straps sm).unit.isClean sm =
    (sm.left.isFresh && sm.right.isFresh &&
      decide (∀ k ∈ (h.complete straps sm).unit.skew, k ≤ h.skewLimit)) := by
  obtain ⟨zl, zr, p, c, r, a, n, frame⟩ := h.complete_frame straps sm
  have skew : (h.judged straps sm).unit.skew = (h.complete straps sm).unit.skew := by rw [frame]
  have limit : (h.judged straps sm).unit.skewLimit = h.skewLimit := (h.judged_angle straps sm).2.2.2.1
  unfold Hinge.isClean
  rw [skew, limit]
  by_cases fresh : sm.left.isFresh = true ∧ sm.right.isFresh = true
  · obtain ⟨known, -, -⟩ := Hinge.complete_skew_of_fresh straps produces fresh.1 fresh.2
    simp [fresh, known]
  · have stale : (sm.left.isFresh && sm.right.isFresh) = false := by simpa using fresh
    simp [stale]

/-! ## What a sample completion leaves of a zero capture (R17, R18) -/

theorem HingeWork.accumulate_idle {w : HingeWork} (idle : w.unit.capture = none ∨ sm.contributes = false) :
    w.accumulate sm = w := by
  unfold HingeWork.accumulate
  split
  · rfl
  · next capture => rw [if_pos (by simpa [capture] using idle)]

theorem HingeWork.accumulate_miss {w : HingeWork} (running : w.unit.capture.isSome = true)
    (contributes : sm.contributes = true) (miss : (sm.left.isFresh && sm.right.isFresh) = false) :
    w.accumulate sm = { w with unit := { w.unit with capture := none, lastResult := .failed }, calDone := true } := by
  unfold HingeWork.accumulate
  split
  · next capture => simp [capture] at running
  · rw [if_neg (by simp [contributes])]
    split
    · next left right => simp [left, right, Reading.isFresh] at miss
    · rfl

theorem HingeWork.accumulate_fresh {w : HingeWork} {c : Capture} (running : w.unit.capture = some c)
    (contributes : sm.contributes = true) (left : sm.left = .fresh rawL) (right : sm.right = .fresh rawR) :
    w.accumulate sm = { w with unit := { w.unit with capture := some (c.count rawL rawR) } } := by
  simp only [HingeWork.accumulate, running, contributes, left, right]
  rfl

theorem HingeWork.handleAngle_calDone (sm : Sample) (angle : Option Nat) (w : HingeWork) :
    (w.handleAngle sm angle).calDone = w.calDone := by
  simp only [HingeWork.handleAngle]
  split
  case h_1 | h_2 => rfl
  case h_3 =>
    split
    · rfl
    · split
      · rfl
      · split <;> rfl
  case h_4 =>
    generalize (if w.unit.isClean sm = true then _ + 1 else 0) = cleanCount
    split
    · split <;> rfl
    · rfl

/-- The capture, the zeros and CAL_DONE before the capture's end are those of the accumulation. -/
theorem Hinge.handled_capture (sm : Sample) (h : Hinge) :
    (h.handled straps sm).unit.capture = (h.gathered sm).unit.capture ∧
    (h.handled straps sm).unit.lastResult = (h.gathered sm).unit.lastResult ∧
    (h.handled straps sm).calDone = (h.gathered sm).calDone ∧
    (h.handled straps sm).unit.left.zero = h.left.zero ∧ (h.handled straps sm).unit.right.zero = h.right.zero := by
  obtain ⟨a, p, n, handled⟩ := (h.judged straps sm).handleAngle_unit sm (h.angleOf straps sm)
  obtain ⟨dl, cl, dr, cr, i, k, m, o, measured⟩ := Hinge.measure_frame straps sm (h.gathered sm).unit
  obtain ⟨left, right⟩ := h.gathered_pivots sm
  have unit : (h.judged straps sm).unit = ((h.gathered sm).unit.measure straps sm).1 := rfl
  have flag : (h.handled straps sm).calDone = (h.judged straps sm).calDone := HingeWork.handleAngle_calDone ..
  refine ⟨?_, ?_, flag, ?_, ?_⟩ <;> rw [Hinge.handled, handled, unit, measured]
  · exact (congrArg PivotState.zero left).trans (PivotState.update_zero _ _)
  · exact (congrArg PivotState.zero right).trans (PivotState.update_zero _ _)

end

/-- A capture that has not gathered its sixteenth sample goes on, or has ended with a miss: no zero is stored. -/
theorem Hinge.complete_capture_keeps (straps : Straps) (sm : Sample) (h : Hinge)
    (fewer : ∀ l r, (h.gathered sm).unit.capture ≠ some (.counting 16 l r)) :
    ((h.complete straps sm).unit.left.zero = h.left.zero ∧ (h.complete straps sm).unit.right.zero = h.right.zero) ∧
    (h.complete straps sm).unit.capture = (h.gathered sm).unit.capture ∧
    (h.complete straps sm).unit.lastResult = (h.gathered sm).unit.lastResult ∧
    (h.complete straps sm).calDone = (h.gathered sm).calDone := by
  obtain ⟨capture, result, done_, left, right⟩ := h.handled_capture straps sm
  rw [h.complete_eq, HingeWork.endCapture_of_not_sixteen (fun l r => capture ▸ fewer l r)]
  exact ⟨⟨left, right⟩, capture, result, done_⟩

/-- The sixteenth sample stores the zeros (R18). -/
theorem Hinge.complete_capture_ends (straps : Straps) {sm : Sample} {h : Hinge} {l r : CaptureSum}
    (ends : (h.gathered sm).unit.capture = some (.counting 16 l r)) :
    (h.complete straps sm).unit.left.zero = l.zero ∧ (h.complete straps sm).unit.right.zero = r.zero ∧
    (h.complete straps sm).unit.seedPending = true ∧ (h.complete straps sm).unit.capture = none ∧
    (h.complete straps sm).unit.lastResult = .ok ∧ (h.complete straps sm).calDone = true := by
  have capture : (h.handled straps sm).unit.capture = some (.counting 16 l r) := (h.handled_capture straps sm).1.trans ends
  rw [h.complete_eq]
  simp only [HingeWork.endCapture, capture, and_self]

theorem captureOffset_bounds (first raw : RawCount) : -2048 ≤ captureOffset first raw ∧ captureOffset first raw ≤ 2047 := by
  unfold captureOffset
  omega

theorem captureOffset_congr (first raw : RawCount) :
    (4096 : Int) ∣ captureOffset first raw - ((raw.toNat : Int) - first.toNat) := by
  unfold captureOffset
  omega

theorem captureOffset_self (raw : RawCount) : captureOffset raw raw = 0 := by
  unfold captureOffset
  omega

theorem CaptureSum.toNat_zero (c : CaptureSum) :
    (c.zero.toNat : Int) = ((c.first.toNat : Int) + (c.sum + 8) / 16) % 4096 := by
  have nonneg : 0 ≤ ((c.first.toNat : Int) + (c.sum + 8) / 16) % 4096 := Int.emod_nonneg _ (by decide)
  rw [CaptureSum.zero, BitVec.toNat_ofInt]
  exact Int.toNat_of_nonneg nonneg

/-- A pivot's readings and miss counts after a completion (R3). -/
theorem Hinge.complete_reading (straps : Straps) (sm : Sample) (h : Hinge) (q : Pivot) :
    ((h.complete straps sm).unit.pivot q).lastGood = ((h.pivot q).update (sm.read q)).lastGood ∧
    ((h.complete straps sm).unit.pivot q).missRun = ((h.pivot q).update (sm.read q)).missRun ∧
    ((h.complete straps sm).unit.pivot q).missTotal = ((h.pivot q).update (sm.read q)).missTotal := by
  obtain ⟨zl, zr, p, c, r, a, n, frame⟩ := h.complete_frame straps sm
  obtain ⟨dl, cl, dr, cr, i, k, m, o, c', r', judged⟩ := h.judged_frame straps sm
  rw [frame, judged]
  cases q <;> exact ⟨rfl, rfl, rfl⟩

/-- The settings, the sample and its counter after a completion. -/
theorem Hinge.complete_settings (straps : Straps) (sm : Sample) (h : Hinge) :
    (h.complete straps sm).unit.sample = none ∧ (h.complete straps sm).unit.samples = Count.bump h.samples ∧
    (h.complete straps sm).unit.interval = h.interval ∧ (h.complete straps sm).unit.shift = h.shift ∧
    (h.complete straps sm).unit.skewLimit = h.skewLimit ∧ (h.complete straps sm).unit.nextSampleAt = h.nextSampleAt := by
  obtain ⟨zl, zr, p, c, r, a, n, frame⟩ := h.complete_frame straps sm
  obtain ⟨dl, cl, dr, cr, i, k, m, o, c', r', judged⟩ := h.judged_frame straps sm
  rw [frame, judged]
  exact ⟨rfl, rfl, rfl, rfl, rfl, rfl⟩

/-! ## Reads (R2) -/

section
variable {s : State} {p : Pivot} {r : Reading} {sm : Sample}

theorem State.endRead_idle (idle : ∀ sm ∈ s.hinge.sample, sm.read p ≠ .waiting) (r : Reading) : s.endRead p r = s := by
  unfold State.endRead
  split
  · rfl
  · next sm sampling => rw [if_neg (idle sm sampling)]

theorem State.readTimesOut_idle (idle : ∀ sm ∈ s.hinge.sample, sm.read p ≠ .waiting) : s.readTimesOut p = s := by
  unfold State.readTimesOut
  split
  · rfl
  · next sm sampling => rw [if_neg (idle sm sampling)]

theorem State.readTimesOut_waiting (sampling : s.hinge.sample = some sm) (waits : sm.read p = .waiting) :
    s.readTimesOut p = (s.reach (sm.requestedAt + 1000)).endRead p .miss := by
  simp only [State.readTimesOut, sampling, if_pos waits]
  rfl

/-- Both reads of the sample with pivot `p`'s read ended: whether the other had ended before. -/
theorem Sample.setRead_ended (ended : r ≠ .waiting) :
    ((sm.setRead p r).left.ended && (sm.setRead p r).right.ended) = (sm.read (otherPivot p)).ended := by
  have itself : r.ended = true := by cases r <;> first | rfl | exact absurd rfl ended
  cases p <;> simp [Sample.setRead, Sample.read, otherPivot, itself]

theorem Reading.ended_iff : r.ended = true ↔ r ≠ .waiting := by
  cases r <;> simp [Reading.ended]

theorem State.endRead_first (sampling : s.hinge.sample = some sm) (waits : sm.read p = .waiting)
    (other : sm.read (otherPivot p) = .waiting) (ended : r ≠ .waiting) :
    s.endRead p r = { s with hinge := { s.hinge with sample := some (sm.setRead p r) } } := by
  simp only [State.endRead, sampling, if_pos waits, Sample.setRead_ended ended, other]
  rfl

theorem State.endRead_second (sampling : s.hinge.sample = some sm) (waits : sm.read p = .waiting)
    (other : sm.read (otherPivot p) ≠ .waiting) (ended : r ≠ .waiting) :
    s.endRead p r = s.completeSample (sm.setRead p r) := by
  simp only [State.endRead, sampling, if_pos waits, Sample.setRead_ended ended, Reading.ended_iff.mpr other, if_true]

end

section
variable (s : State)

/-- The reads still awaited do not matter to a sample completion. -/
theorem State.completeSample_sample (o : Option Sample) (sm : Sample) :
    ({ s with hinge := { s.hinge with sample := o } } : State).completeSample sm = s.completeSample sm := rfl

/-- What the end of reads makes of the part: the sample still waits, or it is completed. -/
inductive State.ReadsEnd : State → Prop
  | waits (n : Nat) (later : s.now ≤ n) (o : Option Sample) :
      State.ReadsEnd { s with now := n, hinge := { s.hinge with sample := o } }
  | completes (n : Nat) (later : s.now ≤ n) (sm : Sample) :
      State.ReadsEnd (({ s with now := n } : State).completeSample sm)

variable {s} {p : Pivot} {r : Reading}

theorem State.readsEnd_endRead (n : Nat) (later : s.now ≤ n) : s.ReadsEnd (({ s with now := n } : State).endRead p r) := by
  unfold State.endRead
  split <;> [skip; split <;> [(dsimp only; split); skip]]
  · exact .waits n later s.hinge.sample
  · exact .completes n later _
  · exact .waits n later _
  · exact .waits n later s.hinge.sample

theorem State.readsEnd_readTimesOut (n : Nat) (later : s.now ≤ n) :
    s.ReadsEnd (({ s with now := n } : State).readTimesOut p) := by
  unfold State.readTimesOut
  split <;> [skip; split]
  · exact .waits n later s.hinge.sample
  · exact State.readsEnd_endRead _ (later.trans (le_max_left _ _))
  · exact .waits n later s.hinge.sample

/-- After a completion no read is awaited. -/
theorem State.completeSample_no_sample (sm : Sample) : (s.completeSample sm).hinge.sample = none := by
  rw [State.completeSample_frame]
  exact (s.hinge.complete_settings s.port.straps sm).1

theorem State.readsEnd_both : s.ReadsEnd ((s.readTimesOut .left).readTimesOut .right) := by
  have first : s.ReadsEnd (s.readTimesOut .left) := State.readsEnd_readTimesOut s.now le_rfl
  generalize s.readTimesOut .left = t at first
  cases first with
  | waits n later o =>
    have second := State.readsEnd_readTimesOut (p := .right)
      (s := { s with now := n, hinge := { s.hinge with sample := o } }) n le_rfl
    generalize State.readTimesOut _ _ = u at second ⊢
    cases second with
    | waits m after o' => exact .waits m (later.trans after) o'
    | completes m after sm => exact .completes m (later.trans after) sm
  | completes n later sm =>
    rw [State.readTimesOut_idle (by simp [State.completeSample_no_sample])]
    exact .completes n later sm

end

section
variable {s : State} {p : Pivot} {sm : Sample}

theorem otherPivot_otherPivot (p : Pivot) : otherPivot (otherPivot p) = p := by cases p <;> rfl

theorem Sample.read_setRead (p : Pivot) (r : Reading) (sm : Sample) : (sm.setRead p r).read p = r := by cases p <;> rfl

theorem Sample.read_setRead_other (p : Pivot) (r : Reading) (sm : Sample) :
    (sm.setRead p r).read (otherPivot p) = sm.read (otherPivot p) := by cases p <;> rfl

theorem Sample.setRead_comm (p : Pivot) (r r' : Reading) (sm : Sample) :
    (sm.setRead p r).setRead (otherPivot p) r' = (sm.setRead (otherPivot p) r').setRead p r := by cases p <;> rfl

theorem State.readTimesOut_first (sampling : s.hinge.sample = some sm) (waits : sm.read p = .waiting)
    (other : sm.read (otherPivot p) = .waiting) : s.readTimesOut p = { s with
      now := max s.now (sm.requestedAt + 1000), hinge := { s.hinge with sample := some (sm.setRead p .miss) } } := by
  rw [State.readTimesOut_waiting sampling waits]
  exact State.endRead_first (s := s.reach (sm.requestedAt + 1000)) (r := .miss) sampling waits other (by simp)

theorem State.readTimesOut_second (sampling : s.hinge.sample = some sm) (waits : sm.read p = .waiting)
    (other : sm.read (otherPivot p) ≠ .waiting) :
    s.readTimesOut p = (s.reach (sm.requestedAt + 1000)).completeSample (sm.setRead p .miss) := by
  rw [State.readTimesOut_waiting sampling waits]
  exact State.endRead_second (s := s.reach (sm.requestedAt + 1000)) (r := .miss) sampling waits other (by simp)

theorem State.readTimesOut_ended (p : Pivot) (s : State) : ∀ sm ∈ (s.readTimesOut p).hinge.sample, sm.read p ≠ .waiting := by
  by_cases waiting : ∃ sm, s.hinge.sample = some sm ∧ sm.read p = .waiting
  · obtain ⟨sm, sampling, waits⟩ := waiting
    by_cases other : sm.read (otherPivot p) = .waiting
    · rw [State.readTimesOut_first sampling waits other]
      rintro _ ⟨⟩
      rw [Sample.read_setRead]
      simp
    · rw [State.readTimesOut_second sampling waits other]
      simp [State.completeSample_no_sample]
  · have idle : ∀ sm ∈ s.hinge.sample, sm.read p ≠ .waiting := fun sm sampling waits => waiting ⟨sm, sampling, waits⟩
    rwa [State.readTimesOut_idle idle]

theorem State.readTimesOut_idem (p : Pivot) (s : State) : (s.readTimesOut p).readTimesOut p = s.readTimesOut p :=
  State.readTimesOut_idle (s.readTimesOut_ended p)

/-- Of two reads that time out at one moment, the order does not matter. -/
theorem State.readTimesOut_comm (p : Pivot) (s : State) :
    (s.readTimesOut p).readTimesOut (otherPivot p) = (s.readTimesOut (otherPivot p)).readTimesOut p := by
  cases sampling : s.hinge.sample with
  | none =>
    have idle (q : Pivot) : s.readTimesOut q = s := State.readTimesOut_idle (by simp [sampling])
    rw [idle, idle, idle]
  | some sm =>
    have idle {q : Pivot} (ended : sm.read q ≠ .waiting) : s.readTimesOut q = s :=
      State.readTimesOut_idle (by simpa [sampling] using ended)
    have after {q : Pivot} (waits : sm.read q = .waiting) (ended : sm.read (otherPivot q) ≠ .waiting) :
        (s.readTimesOut q).readTimesOut (otherPivot q) = s.readTimesOut q := by
      rw [State.readTimesOut_second sampling waits ended]
      exact State.readTimesOut_idle (by simp [State.completeSample_no_sample])
    have both {q : Pivot} (waits : sm.read q = .waiting) (waits' : sm.read (otherPivot q) = .waiting) :
        (s.readTimesOut q).readTimesOut (otherPivot q) = (({ s with now := max s.now (sm.requestedAt + 1000) } : State).reach
          (sm.requestedAt + 1000)).completeSample ((sm.setRead q .miss).setRead (otherPivot q) .miss) := by
      rw [State.readTimesOut_first sampling waits waits',
        State.readTimesOut_second (sm := sm.setRead q .miss) rfl (by rwa [Sample.read_setRead_other])
          (by rw [otherPivot_otherPivot, Sample.read_setRead]; simp)]
      cases q <;> rfl
    by_cases waits : sm.read p = .waiting <;> by_cases waits' : sm.read (otherPivot p) = .waiting
    · have swapped := both (q := otherPivot p) waits' (by rwa [otherPivot_otherPivot])
      rw [otherPivot_otherPivot] at swapped
      rw [both waits waits', swapped, Sample.setRead_comm]
    · rw [after waits waits', idle waits']
    · have swapped := after (q := otherPivot p) waits' (by rwa [otherPivot_otherPivot])
      rw [otherPivot_otherPivot] at swapped
      rw [idle waits, swapped]
    · rw [idle waits, idle waits', idle waits]

/-- The end of reads keeps the schedule of the samples. -/
theorem State.ReadsEnd.nextSampleAt {t : State} (ends : s.ReadsEnd t) : t.hinge.nextSampleAt = s.hinge.nextSampleAt := by
  cases ends with
  | waits => rfl
  | completes n later sm =>
    rw [State.completeSample_frame]
    exact (s.hinge.complete_settings s.port.straps sm).2.2.2.2.2

end

theorem State.completeSample_hinge (sm : Sample) (s : State) :
    (s.completeSample sm).hinge = (s.hinge.complete s.port.straps sm).unit := by
  rw [State.completeSample_frame]

theorem State.completeSample_completes (sm : Sample) (s : State) : s.CompletesTo sm (s.completeSample sm) := by
  have hinge := s.completeSample_hinge sm
  obtain ⟨sample, samples, interval, shift, limit, next_⟩ := s.hinge.complete_settings s.port.straps sm
  have posture := State.postureWork_posture (s.hinge.complete s.port.straps sm).unit.angle.report
    (({ s with hinge := (s.hinge.complete s.port.straps sm).unit }.raiseIf
      (s.hinge.complete s.port.straps sm).angleFault .angleFault).raiseIf
      (s.hinge.complete s.port.straps sm).calDone .calDone)
  simp only [State.raiseIf_posture] at posture
  unfold State.CompletesTo
  rw [hinge]
  refine ⟨State.postureWork_works _ _, sample, samples, interval, shift, limit, next_, fun q => ?_, posture.1, posture.2⟩
  obtain ⟨good, run, total⟩ := s.hinge.complete_reading s.port.straps sm q
  rw [good, run, total]
  split
  · next raw fresh => rw [fresh]; exact ⟨rfl, rfl, rfl⟩
  · next stale =>
    cases read : sm.read q with
    | fresh raw => exact absurd read (stale raw)
    | waiting => exact ⟨rfl, rfl, rfl⟩
    | miss => exact ⟨rfl, rfl, rfl⟩

/-! ## The events of a sample and the settings commands -/

section
variable {s : State} (running : s.inReset = false)
include running

theorem execSensorReply_running (p : Pivot) (raw : RawCount) (ok : Bool) :
    execSensorReply p raw ok s = .next (s.endRead p (if ok then .fresh raw else .miss)) :=
  State.onEvent_running running _

theorem execSensorReadTimeout_running (p : Pivot) : execSensorReadTimeout p s = .next (s.readTimesOut p) :=
  State.onEvent_running running _

theorem execSampleIntervalExpiry_running : execSampleIntervalExpiry s =
    .next ((((s.readTimesOut .left).readTimesOut .right).reach s.hinge.nextSampleAt).startSample) :=
  State.onEvent_running running _

end

section
variable {s : State} (opened : s.portOpen = true)
include opened

theorem execZeroCapture_busy (running : s.hinge.capture.isSome = true) : execZeroCapture s = .next (s.hold ⟨.busy, []⟩) := by
  simp only [execZeroCapture, State.onCommand_open opened, running, if_true, refuse_fst, refuse_snd]

theorem execZeroCapture_starts (idle : s.hinge.capture = none) : execZeroCapture s =
    .next (({ s with hinge := { s.hinge with capture := some .started } }).hold ⟨.started, []⟩) := by
  simp only [execZeroCapture, State.onCommand_open opened, idle]
  rfl

theorem execZeroWrite_range {zl zr : Half} (above : 4096 ≤ zl.toNat ∨ 4096 ≤ zr.toNat) :
    execZeroWrite zl zr s = .next (s.hold ⟨.range, []⟩) := by
  simp only [execZeroWrite, State.onCommand_open opened, if_pos above, refuse_fst, refuse_snd]

theorem execZeroWrite_busy {zl zr : Half} (within : ¬ (4096 ≤ zl.toNat ∨ 4096 ≤ zr.toNat))
    (running : s.hinge.capture.isSome = true) : execZeroWrite zl zr s = .next (s.hold ⟨.busy, []⟩) := by
  simp only [execZeroWrite, State.onCommand_open opened, if_neg within, running, if_true, refuse_fst, refuse_snd]

theorem execZeroWrite_done {zl zr : Half} (within : ¬ (4096 ≤ zl.toNat ∨ 4096 ≤ zr.toNat))
    (idle : s.hinge.capture = none) : execZeroWrite zl zr s = .next (({ s with hinge := { s.hinge with
      left := { s.hinge.left with zero := zl.setWidth 12 }, right := { s.hinge.right with zero := zr.setWidth 12 }
      seedPending := true } }).hold ⟨.done, []⟩) := by
  simp only [execZeroWrite, State.onCommand_open opened, if_neg within, idle]
  rfl

theorem execHingeConfig_busy (running : s.hinge.capture.isSome = true) (i k l : Half) :
    execHingeConfig i k l s = .next (s.hold ⟨.busy, []⟩) := by
  simp only [execHingeConfig, State.onCommand_open opened, running, if_true, refuse_fst, refuse_snd]

theorem execHingeConfig_done (idle : s.hinge.capture = none) (i k l : Half) :
    execHingeConfig i k l s = .next (({ s with hinge := { s.hinge with
      interval := max 5 (min 50 i.toNat), shift := min 4 k.toNat, skewLimit := max 8 (min 255 l.toNat) } }).hold
        ⟨.done, byte2 (max 5 (min 50 i.toNat)) ++ byte2 (min 4 k.toNat) ++ byte2 (max 8 (min 255 l.toNat))⟩) := by
  have shift : clamp 0 4 k.toNat = min 4 k.toNat := by rw [clamp_eq (by decide)]; omega
  simp only [execHingeConfig, State.onCommand_open opened, idle, shift, clamp_eq (show 5 ≤ 50 by decide),
    clamp_eq (show 8 ≤ 255 by decide)]
  rfl

end

end Sys2Proof.Machine

open Sys2Proof Sys2Proof.Machine

/-- Settles O14: with no read awaited the sample starts; a read awaited times out first, and the interval expiry ends it in
the same way. -/
theorem sampleStartsAtTheIntervalExpiry : Obligations.SampleStartsAtTheIntervalExpiry := by
  unfold Obligations.SampleStartsAtTheIntervalExpiry
  intro s running
  refine ⟨fun ended => ?_, fun p ⟨sm, sampling, waits⟩ => ?_⟩
  · refine (execSampleIntervalExpiry_running running).trans ?_
    rw [State.readTimesOut_idle (p := .left) fun sm sampling => (ended sm sampling).1,
      State.readTimesOut_idle (p := .right) fun sm sampling => (ended sm sampling).2]
    simp only [State.startSample, State.reach, ms, Nat.mul_comm]
  · have kept : (s.readTimesOut p).inReset = s.inReset :=
      (s.touches_readTimesOut p).same .inReset (by simp [sampleParts, postureParts])
    have stands : (s.readTimesOut p).inReset = false := kept.trans running
    have at_ : (s.readTimesOut p).hinge.nextSampleAt = s.hinge.nextSampleAt :=
      (State.readsEnd_readTimesOut (s := s) s.now le_rfl).nextSampleAt
    refine ⟨_, execSensorReadTimeout_running running p, (execSampleIntervalExpiry_running running).trans
      (Eq.trans ?_ (execSampleIntervalExpiry_running stands).symm)⟩
    rw [at_]
    cases p with
    | left => rw [State.readTimesOut_idem]
    | right =>
      have swapped : (s.readTimesOut .left).readTimesOut .right = (s.readTimesOut .right).readTimesOut .left :=
        State.readTimesOut_comm .left s
      rw [← swapped, State.readTimesOut_idem]

/-- Settles O15: a read that is not awaited, and the first of two awaited. -/
theorem firstReadOfASampleWaitsForTheOther : Obligations.FirstReadOfASampleWaitsForTheOther := by
  unfold Obligations.FirstReadOfASampleWaitsForTheOther
  intro p raw ok s running
  have ended : (if ok then Reading.fresh raw else .miss) ≠ .waiting := by cases ok <;> exact nofun
  refine ⟨fun idle => ⟨?_, ?_⟩, fun sm sampling waits other => ⟨?_, ?_⟩⟩
  · exact (execSensorReply_running running p raw ok).trans (by rw [State.endRead_idle idle])
  · exact (execSensorReadTimeout_running running p).trans (by rw [State.readTimesOut_idle idle])
  · exact (execSensorReply_running running p raw ok).trans (by rw [State.endRead_first sampling waits other ended])
  · refine (execSensorReadTimeout_running running p).trans ?_
    rw [State.readTimesOut_first sampling waits other]

/-- Settles O16: the second read, by its reply or by its time limit, completes the sample. -/
theorem secondReadCompletesTheSample : Obligations.SecondReadCompletesTheSample := by
  unfold Obligations.SecondReadCompletesTheSample
  intro p raw ok s sm running sampling waits other
  have ended : (if ok then Reading.fresh raw else .miss) ≠ .waiting := by cases ok <;> exact nofun
  refine ⟨⟨_, execSensorReply_running running p raw ok, ?_⟩, ⟨_, execSensorReadTimeout_running running p, ?_⟩⟩
  · rw [State.endRead_second sampling waits other ended]
    exact State.completeSample_completes _ s
  · rw [State.readTimesOut_second sampling waits other]
    exact State.completeSample_completes _ _

/-- Settles O18: the movement is the quotient, or one unit when the quotient is 0. -/
theorem filterStepMovesTowardTheAngle : Obligations.FilterStepMovesTowardTheAngle := by
  unfold Obligations.FilterStepMovesTowardTheAngle
  refine ⟨?_, reportedOf_rounds⟩
  intro k a f d step
  have moves : step = filterMove k d := by
    simp only [step, filterStep_eq, d]
    omega
  obtain ⟨still, up, down⟩ := filterMove_toward k d
  rw [moves]
  refine ⟨still, up, down, fun far => if_neg ?_, fun near => if_pos ((tdiv_pow_eq_zero_iff k d).mpr near), filterStep_le⟩
  rw [tdiv_pow_eq_zero_iff]
  exact Nat.not_lt.mpr far

/-- Settles O19: an angle-producing sample by the angle state, then one that produces none. -/
theorem angleStateFollowsTheSamples : Obligations.AngleStateFollowsTheSamples := by
  unfold Obligations.AngleStateFollowsTheSamples
  refine ⟨fun straps sm h rawL rawR produces => ?_, fun straps sm h silent => ?_⟩
  · intro w lostL lostR skewed clean noNewZeros
    obtain ⟨state, pending, shift, limit, entries, flag⟩ := h.judged_angle straps sm
    obtain ⟨angle, angleFault, faultEntries, seedPending⟩ := h.complete_angle straps sm
    have conditions : (h.judged straps sm).unit.conditions = ⟨lostL, lostR, skewed⟩ := h.complete_conditions straps sm
    have cleans : (h.judged straps sm).unit.isClean sm = clean := Hinge.isClean_iff straps produces
    have produced := Hinge.angleOf_of_produces straps produces
    obtain ⟨-, -, -, -, instant⟩ := Hinge.complete_records straps produces
    generalize foldAngle _ _ = a at produced instant
    have handled : h.handled straps sm = (h.judged straps sm).handleAngle sm (some a) := by rw [Hinge.handled, produced]
    refine ⟨a, instant, fun acquiring => ?_, fun f tracking => ⟨fun faults => ?_, fun sound => ?_⟩,
      fun f g n faulted => ?_⟩
    · rw [HingeWork.handleAngle_seeds (state.trans acquiring)] at handled
      rw [handled] at angle angleFault seedPending
      exact ⟨angle, angleFault.trans flag, seedPending⟩
    · rw [HingeWork.handleAngle_faults (state.trans tracking) (by rw [conditions]; exact faults)] at handled
      rw [handled, conditions] at angle
      rw [handled] at angleFault faultEntries seedPending
      exact ⟨angle, angleFault, faultEntries.trans (congrArg Count.bump entries), fun none_ => (seedPending none_).trans pending⟩
    · rw [HingeWork.handleAngle_tracks (state.trans tracking) (by rw [conditions]; exact sound), pending] at handled
      rw [handled] at angle angleFault faultEntries seedPending
      refine ⟨angleFault.trans flag, ?_, ?_, fun none_ => (seedPending none_).trans ?_⟩
      · rw [faultEntries]
        split <;> exact entries
      · rw [angle]
        split
        · rfl
        · rw [shift]
      · split
        · rfl
        · next idle => exact pending.trans (Bool.eq_false_iff.mpr idle)
    · have counted : (h.judged straps sm).unit.cleanCount sm n = if clean then n + 1 else 0 := by
        rw [Hinge.cleanCount, cleans]
      by_cases recovers : clean = true ∧ 7 ≤ n
      · rw [HingeWork.handleAngle_recovers (state.trans faulted) (by rw [counted, if_pos recovers.1]; omega)] at handled
        rw [handled] at angle angleFault faultEntries seedPending
        exact ⟨faultEntries.trans entries, fun _ _ => ⟨angle, angleFault, seedPending⟩,
          fun stays => absurd recovers fun ⟨fresh, many⟩ => stays.elim (fun stale => by simp [fresh] at stale)
            fun few => absurd many (Nat.not_le.mpr few)⟩
      · have few : (if clean then n + 1 else 0) < 8 := by
          split
          · next fresh =>
            have few : ¬ 7 ≤ n := fun many => recovers ⟨fresh, many⟩
            omega
          · decide
        rw [HingeWork.handleAngle_stays (state.trans faulted) (by rwa [counted])] at handled
        rw [handled, HingeWork.staysFaulted, conditions, counted] at angle
        rw [handled] at angleFault faultEntries seedPending
        exact ⟨faultEntries.trans entries, fun fresh many => absurd ⟨fresh, many⟩ recovers,
          fun _ => ⟨angleFault.trans flag, angle, fun none_ => (seedPending none_).trans pending⟩⟩
  · intro w
    have missing := Hinge.missing_of_not_produces silent
    obtain ⟨left, right⟩ := h.gathered_pivots sm
    have measured : (h.gathered sm).unit.measure straps sm = ((h.gathered sm).unit, none) :=
      Hinge.measure_of_missing straps sm (by rw [left, right]; exact missing)
    obtain ⟨c, r, gathered⟩ := HingeWork.accumulate_unit sm ⟨h.taken sm, false, false⟩
    have judged : (h.judged straps sm).unit = { h.taken sm with capture := c, lastResult := r } := by
      rw [Hinge.judged, measured]
      exact gathered
    obtain ⟨zl, zr, p, c', r', a, n, frame⟩ := h.complete_frame straps sm
    rw [judged] at frame
    have delta (reading : Reading) (q : PivotState) : (q.update reading).delta = q.delta ∧
        (q.update reading).clamped = q.clamped := by cases reading <;> exact ⟨rfl, rfl⟩
    refine ⟨by rw [frame]; rfl, ?_, ?_, ?_, ?_, by rw [frame]; rfl, by rw [frame]; rfl, by rw [frame]; rfl,
      fun acquiring => ?_⟩
    · rw [frame]; exact (delta sm.left h.left).1
    · rw [frame]; exact (delta sm.right h.right).1
    · rw [frame]; exact (delta sm.left h.left).2
    · rw [frame]; exact (delta sm.right h.right).2
    · obtain ⟨state, pending, -, -, entries, flag⟩ := h.judged_angle straps sm
      obtain ⟨angle, angleFault, faultEntries, seedPending⟩ := h.complete_angle straps sm
      have handled : h.handled straps sm = h.judged straps sm := by
        rw [Hinge.handled, Hinge.angleOf, measured]
        exact HingeWork.handleAngle_acquiring (state.trans acquiring)
      rw [handled] at angle angleFault faultEntries seedPending
      refine ⟨angle.trans (state.trans acquiring), angleFault.trans flag, faultEntries.trans entries, fun fewer => ?_⟩
      have gatheredFewer : ∀ l r, (h.gathered sm).unit.capture ≠ some (.counting 16 l r) := by
        by_cases idle : h.capture = none ∨ sm.contributes = false
        · rw [Hinge.gathered, HingeWork.accumulate_idle (w := ⟨h.taken sm, false, false⟩) idle]
          exact fewer
        · rw [not_or] at idle
          rw [Hinge.gathered, HingeWork.accumulate_miss (w := ⟨h.taken sm, false, false⟩)
            (Option.isSome_iff_ne_none.mpr idle.1) (Bool.eq_true_of_not_eq_false idle.2)
            (PivotState.stale_of_missing missing)]
          exact nofun
      have capture := (h.handled_capture straps sm).1
      rw [handled] at capture
      have whole : w = h.judged straps sm := (h.complete_eq straps sm).trans (by
        rw [handled]
        exact HingeWork.endCapture_of_not_sixteen fun l r => by rw [capture]; exact gatheredFewer l r)
      rw [whole]
      exact pending

/-- Settles O20: the commands, the offset, and a capture by what its sample gathers. -/
theorem zeroCaptureAveragesSixteenSamples : Obligations.ZeroCaptureAveragesSixteenSamples := by
  unfold Obligations.ZeroCaptureAveragesSixteenSamples
  refine ⟨fun s opened => ⟨execZeroCapture_starts opened, execZeroCapture_busy opened⟩,
    fun first raw => ⟨(captureOffset_bounds first raw).1, (captureOffset_bounds first raw).2, captureOffset_congr first raw⟩,
    ?_⟩
  intro straps sm h w kept
  refine ⟨fun idle fewer => ?_, fun capturing contributes miss => ?_,
    fun rawL rawR contributes left right => ⟨fun starts => ?_, fun n l r counting => ?_⟩⟩
  · have gathered : h.gathered sm = ⟨h.taken sm, false, false⟩ :=
      HingeWork.accumulate_idle (w := ⟨h.taken sm, false, false⟩) idle
    have keeps := h.complete_capture_keeps straps sm
    rw [gathered] at keeps
    exact keeps fewer
  · have gathered := HingeWork.accumulate_miss (w := ⟨h.taken sm, false, false⟩) capturing contributes miss
    have keeps := h.complete_capture_keeps straps sm
    rw [Hinge.gathered, gathered] at keeps
    exact keeps nofun
  · have gathered := HingeWork.accumulate_fresh (w := ⟨h.taken sm, false, false⟩) starts contributes left right
    obtain ⟨zeros, capture, -, done_⟩ := h.complete_capture_keeps straps sm
      (by rw [Hinge.gathered, gathered]; simp [Capture.count])
    refine ⟨zeros, capture.trans ?_, done_.trans ?_⟩ <;> rw [Hinge.gathered, gathered]
    simp only [Capture.count, CaptureSum.add, captureOffset_self, add_zero]
  · intro sumL sumR
    have gathered := HingeWork.accumulate_fresh (w := ⟨h.taken sm, false, false⟩) counting contributes left right
    refine ⟨fun few => ?_, fun fifteen => ?_⟩
    · obtain ⟨zeros, capture, -, done_⟩ := h.complete_capture_keeps straps sm
        (by rw [Hinge.gathered, gathered]; simp [Capture.count]; omega)
      refine ⟨zeros, capture.trans ?_, done_.trans ?_⟩ <;> rw [Hinge.gathered, gathered]
      rfl
    · subst fifteen
      obtain ⟨left, right, rest⟩ := h.complete_capture_ends straps (by rw [Hinge.gathered, gathered]; rfl)
      exact ⟨by rw [left, CaptureSum.toNat_zero]; rfl, by rw [right, CaptureSum.toNat_zero]; rfl, rest⟩

/-- Settles O21: the refusals in their order, then what each command writes. -/
theorem zeroWriteAndHingeConfig : Obligations.ZeroWriteAndHingeConfig := by
  unfold Obligations.ZeroWriteAndHingeConfig
  refine fun s opened => ⟨fun zl zr => ⟨fun above => ?_, fun left right running => ?_, fun left right idle => ?_⟩,
    fun i k l => ⟨fun running => execHingeConfig_busy opened running i k l,
      fun idle => execHingeConfig_done opened idle i k l⟩⟩
  · exact execZeroWrite_range opened above
  · exact execZeroWrite_busy opened (by omega) running
  · refine ⟨zl.setWidth 12, zr.setWidth 12, ?_, ?_, execZeroWrite_done opened (by omega) idle⟩ <;>
      rw [BitVec.toNat_setWidth, Nat.mod_eq_of_lt (by omega)]

end

section
/-! PROOFS. The Posture Unit: zones and triggers (R25, R31, R32), the dwell (R33), demand and pre-demand (R41 to R43), and
the commands that set it (R26, R34 to R40). -/

namespace Sys2Proof.Machine

/-! ## Zones and the candidate -/

theorem Zones.valid_iff {z : Zones} :
    z.valid = true ↔ z.b1 ≤ z.b2 ∧ z.b2 ≤ z.b3 ∧ z.b3 ≤ z.b4 ∧ z.b4 ≤ z.b5 ∧ z.b5 ≤ 3600 := by
  simp [Zones.valid, and_assoc]

theorem zonesOf_eq (b1 b2 b3 b4 b5 : Half) :
    zonesOf b1 b2 b3 b4 b5 =
      if Zones.valid ⟨b1.toNat, b2.toNat, b3.toNat, b4.toNat, b5.toNat⟩ = true
      then some ⟨b1.toNat, b2.toNat, b3.toNat, b4.toNat, b5.toNat⟩ else none := by
  simp only [zonesOf, Zones.valid_iff]

theorem zonesOf_valid {b1 b2 b3 b4 b5 : Half} {z : Zones} (given : zonesOf b1 b2 b3 b4 b5 = some z) :
    z.valid = true := by
  rw [zonesOf_eq] at given
  split at given
  case isTrue valid => exact (Option.some.inj given) ▸ valid
  case isFalse => nomatch given

section
variable {z : Zones} {a : Nat} (valid : z.valid = true)
include valid

/-- Each zone ends where the next one begins, so the bounds name the zone of an angle. -/
theorem Zones.containing_iff (inRange : a ≤ 3600) {p : Posture} :
    z.containing a = p ↔ z.lower p ≤ a ∧ a < z.upper p := by
  obtain ⟨h12, h23, h34, h45, h5⟩ := Zones.valid_iff.1 valid
  unfold Zones.containing
  cases p <;> simp only [Zones.lower, Zones.upper] <;> split_ifs <;> simp <;> omega

/-- An angle at or above a zone's upper bound lies in a higher zone. -/
theorem Zones.containing_above {c : Posture} (notLast : c ≠ .backfold) (above : z.upper c ≤ a) :
    c.number < (z.containing a).number := by
  obtain ⟨h12, h23, h34, h45, h5⟩ := Zones.valid_iff.1 valid
  unfold Zones.containing
  cases c <;> simp only [Zones.upper] at above <;> split_ifs <;> first | decide | omega | exact absurd rfl notLast

/-- An angle below a zone's lower bound lies in a lower zone. -/
theorem Zones.containing_below {c : Posture} (below : a < z.lower c) : (z.containing a).number < c.number := by
  obtain ⟨h12, h23, h34, h45, h5⟩ := Zones.valid_iff.1 valid
  unfold Zones.containing
  cases c <;> simp only [Zones.lower] at below <;> split_ifs <;> first | decide | omega

end

theorem PostureUnit.candidate_none {u : PostureUnit} {a : Nat} (none : u.posture = none) :
    u.candidate a = u.zones.containing a := by
  simp only [PostureUnit.candidate, none]

theorem PostureUnit.candidate_some {u : PostureUnit} {a : Nat} {c : Posture} (posture : u.posture = some c) :
    u.candidate a = if (c ≠ .backfold ∧ u.zones.upper c + u.hysteresis ≤ a) ∨
      (c ≠ .shut ∧ a + u.hysteresis < u.zones.lower c) then u.zones.containing a else c := by
  simp only [PostureUnit.candidate, posture]

/-! ## Evaluation and the dwell -/

theorem PostureUnit.evaluate_resting {u : PostureUnit} (resting : u.mode ≠ .track ∨ ∀ a, u.report ≠ .tracking a) :
    u.evaluate = { u with dwelling := none } := by
  unfold PostureUnit.evaluate
  split
  case h_1 a mode report =>
    obtain other | other := resting
    · exact absurd mode other
    · exact absurd report (other a)
  case h_2 => rfl

theorem PostureUnit.evaluate_tracking {u : PostureUnit} {a : Nat} (mode : u.mode = .track) (report : u.report = .tracking a) :
    u.evaluate = u.evaluateAt a := by
  simp only [PostureUnit.evaluate, mode, report]

theorem dwellOn_candidate (before : Option Dwelling) (c : Posture) : (dwellOn before c).candidate = c := by
  unfold dwellOn
  split <;> [split; skip] <;> rfl

/-- The evaluations in a row that named the candidate, this one counted. -/
theorem dwellOn_count (before : Option Dwelling) (c : Posture) :
    (dwellOn before c).count = match before with
      | some d => if d.candidate = c then d.count + 1 else 1
      | none => 1 := by
  unfold dwellOn
  split <;> [split; skip] <;> simp_all

theorem PostureUnit.evaluateAt_holds {u : PostureUnit} {a : Nat} (holds : u.posture = some (u.candidate a)) :
    u.evaluateAt a = { u with dwelling := none } :=
  if_pos holds

section
variable {u : PostureUnit} {a : Nat} (moves : u.posture ≠ some (u.candidate a))
include moves

theorem PostureUnit.evaluateAt_waits (short : (dwellOn u.dwelling (u.candidate a)).count < u.dwell) :
    u.evaluateAt a =
      { u with dwelling := some ⟨u.candidate a, (dwellOn u.dwelling (u.candidate a)).count⟩ } := by
  have taken : dwellOn u.dwelling (u.candidate a) = ⟨u.candidate a, (dwellOn u.dwelling (u.candidate a)).count⟩ :=
    congrArg (Dwelling.mk · _) (dwellOn_candidate u.dwelling (u.candidate a))
  simp only [PostureUnit.evaluateAt, if_neg moves, if_neg (Nat.not_le.2 short)]
  rw [← taken]

theorem PostureUnit.evaluateAt_moves (long : u.dwell ≤ (dwellOn u.dwelling (u.candidate a)).count) :
    u.evaluateAt a = { u with posture := some (u.candidate a), dwelling := none } := by
  simp only [PostureUnit.evaluateAt, if_neg moves, if_pos long, dwellOn_candidate]

end

/-! ## Demand and pre-demand -/

theorem Demand.resolve_iff {lead x : Panel} {d : Demand} :
    d.resolve lead x = true ↔ d = .on ∨ (d = .lead ∧ x = lead) ∨ (d = .trail ∧ x ≠ lead) := by
  cases d <;> simp [Demand.resolve]

theorem PostureUnit.demandOf_some {u : PostureUnit} {x : Panel} {p : Posture} (posture : u.posture = some p) :
    u.demandOf x = u.wouldDemand x p := by
  simp only [PostureUnit.demandOf, posture]

theorem PostureUnit.demandOf_iff {u : PostureUnit} {x : Panel} :
    u.demandOf x = true ↔ ∃ p, u.posture = some p ∧
      ((u.profile p).demand x = .on ∨ ((u.profile p).demand x = .lead ∧ x = u.lead) ∨
        ((u.profile p).demand x = .trail ∧ x ≠ u.lead)) := by
  cases posture : u.posture with
  | none => simp [PostureUnit.demandOf, posture]
  | some p => simp [PostureUnit.demandOf_some posture, PostureUnit.wouldDemand, Demand.resolve_iff]

theorem PostureUnit.nearsUpper_iff {u : PostureUnit} {x : Panel} {c : Posture} {a : Nat} :
    u.nearsUpper x c a = true ↔ u.zones.upper c ≤ 3600 ∧ u.zones.upper c ≤ a + u.margin ∧
      ({ u with posture := some (u.zones.containing (u.zones.upper c)) }).demandOf x = true := by
  simp [PostureUnit.nearsUpper, PostureUnit.demandOf, and_assoc, PostureUnit.wouldDemand, PostureUnit.profile]

theorem PostureUnit.nearsLower_iff {u : PostureUnit} {x : Panel} {c : Posture} {a : Nat} :
    u.nearsLower x c a = true ↔ 0 < u.zones.lower c ∧ a < u.zones.lower c + u.margin ∧
      ({ u with posture := some (u.zones.containing (u.zones.lower c - 1)) }).demandOf x = true := by
  simp [PostureUnit.nearsLower, PostureUnit.demandOf, and_assoc, PostureUnit.wouldDemand, PostureUnit.profile]

theorem PostureUnit.preDemandOf_tracking {u : PostureUnit} {c : Posture} {a : Nat} (x : Panel) (posture : u.posture = some c)
    (mode : u.mode = .track) (report : u.report = .tracking a) :
    u.preDemandOf x = (!(u.need x).demand && (u.nearsUpper x c a || u.nearsLower x c a)) := by
  simp only [PostureUnit.preDemandOf, posture, mode, report]

theorem PostureUnit.preDemandOf_iff {u : PostureUnit} {x : Panel} :
    u.preDemandOf x = true ↔ ∃ c a, u.posture = some c ∧ u.mode = .track ∧ u.report = .tracking a ∧
      (u.need x).demand = false ∧ (u.nearsUpper x c a = true ∨ u.nearsLower x c a = true) := by
  refine ⟨fun pre => ?_, fun ⟨c, a, posture, mode, report, off, near⟩ => ?_⟩
  · unfold PostureUnit.preDemandOf at pre
    split at pre
    case h_1 c a posture mode report => exact ⟨c, a, posture, mode, report, by simpa using pre⟩
    case h_2 => nomatch pre
  · rw [PostureUnit.preDemandOf_tracking x posture mode report]
    simpa [off] using near

/-- Outside TRACK no panel is pre-demanded (R42). -/
theorem PostureUnit.preDemandOf_resting {u : PostureUnit} {x : Panel} (resting : u.mode ≠ .track) : u.preDemandOf x = false := by
  refine Bool.eq_false_iff.2 fun pre => ?_
  obtain ⟨_, _, _, mode, _⟩ := PostureUnit.preDemandOf_iff.1 pre
  exact resting mode

/-- The Posture Unit of the default settings, in a posture at an angle. -/
def PostureUnit.defaultAt (leadsel : Bool) (a : Nat) (p : Posture) : PostureUnit :=
  ({ PostureUnit.reset leadsel with posture := some p, report := .tracking a }).resolveDemands

section
variable (leadsel : Bool) (a : Nat) (x : Panel)

theorem PostureUnit.defaultAt_preDemandOf (p : Posture) :
    (PostureUnit.defaultAt leadsel a p).preDemandOf x =
      (!(PostureUnit.reset leadsel).wouldDemand x p &&
        ((PostureUnit.reset leadsel).nearsUpper x p a || (PostureUnit.reset leadsel).nearsLower x p a)) := by
  rw [PostureUnit.preDemandOf_tracking x rfl rfl rfl]
  cases x <;> rfl

theorem PostureUnit.reset_wouldDemand (p : Posture) :
    (PostureUnit.reset leadsel).wouldDemand x p =
      match p with
      | .shut => false
      | .peek | .backfold => decide (x = leadOf leadsel)
      | .book | .flat | .tent => true := by
  cases p <;> cases x <;> cases leadsel <;> rfl

/-- The neighbours above of SHUT and PEEK are PEEK and BOOK; BACKFOLD has none. -/
theorem PostureUnit.reset_nearsUpper :
    (PostureUnit.reset leadsel).nearsUpper x .shut a = decide (x = leadOf leadsel) ∧
    (PostureUnit.reset leadsel).nearsUpper x .peek a = decide (550 ≤ a) ∧
    (PostureUnit.reset leadsel).nearsUpper x .backfold a = false := by
  have shut : (PostureUnit.reset leadsel).nearsUpper x .shut a =
      (decide (150 ≤ 3600) && decide (150 ≤ a + 150) && (PostureUnit.reset leadsel).wouldDemand x .peek) := rfl
  have peek : (PostureUnit.reset leadsel).nearsUpper x .peek a =
      (decide (700 ≤ 3600) && decide (700 ≤ a + 150) && (PostureUnit.reset leadsel).wouldDemand x .book) := rfl
  refine ⟨?_, ?_, rfl⟩
  · simp [shut, PostureUnit.reset_wouldDemand]
  · simp [peek, PostureUnit.reset_wouldDemand]

/-- The neighbours below of PEEK and BACKFOLD are SHUT and TENT; SHUT has none. -/
theorem PostureUnit.reset_nearsLower :
    (PostureUnit.reset leadsel).nearsLower x .shut a = false ∧
    (PostureUnit.reset leadsel).nearsLower x .peek a = false ∧
    (PostureUnit.reset leadsel).nearsLower x .backfold a = decide (a < 3450) := by
  have peek : (PostureUnit.reset leadsel).nearsLower x .peek a =
      (decide (0 < 150) && decide (a < 150 + 150) && (PostureUnit.reset leadsel).wouldDemand x .shut) := rfl
  have backfold : (PostureUnit.reset leadsel).nearsLower x .backfold a =
      (decide (0 < 3300) && decide (a < 3300 + 150) && (PostureUnit.reset leadsel).wouldDemand x .tent) := rfl
  refine ⟨rfl, ?_, ?_⟩
  · simp [peek, PostureUnit.reset_wouldDemand]
  · simp [backfold, PostureUnit.reset_wouldDemand]

end

/-! ## The Posture Unit takes new settings -/

section
variable (u : PostureUnit) (s : State)

theorem State.setPosture_evaluated :
    (s.setPosture u.evaluatePreDemands).posture = { u with
      needA := (s.setPosture u.evaluatePreDemands).posture.needA
      needB := (s.setPosture u.evaluatePreDemands).posture.needB } := by
  rw [State.setPosture_frame]
  rfl

theorem State.setPosture_demand (x : Panel) :
    ((s.setPosture u.evaluatePreDemands).posture.need x).demand = (u.need x).demand := by
  rw [State.setPosture_frame]
  cases x <;> rfl

theorem State.setPosture_preDemand (x : Panel) :
    ((s.setPosture u.evaluatePreDemands).posture.need x).preDemand = u.preDemandOf x := by
  rw [State.setPosture_frame]
  cases x <;> rfl

theorem PostureUnit.resolveDemands_demand (x : Panel) : (u.resolveDemands.need x).demand = u.demandOf x := by
  cases x <;> rfl

theorem State.setPosture_demandOf (x : Panel) :
    (s.setPosture u.resolveDemands.evaluatePreDemands).posture.demandOf x = u.demandOf x := by
  rw [State.setPosture_frame]
  rfl

variable {u s}

/-- New settings whose demands are set but not delivered: posture work alone. -/
theorem State.setPosture_evaluated_works (posture : u.posture = s.posture.posture)
    (delivered : ∀ x, (u.need x).delivered = (s.posture.need x).delivered) :
    s.PostureWorkOnly (s.setPosture u.evaluatePreDemands) := by
  refine State.setPosture_works (changed := false) (by simpa [PostureUnit.evaluatePreDemands] using posture) (fun x => ?_) fun x => ?_
  · rw [← delivered]
    cases x <;> rfl
  · cases x <;> rfl

end

/-! ## The commands -/

/-- The settings of POSTURE CONFIG, each put in its range (R34). -/
def PostureUnit.configured (u : PostureUnit) (h d m : Half) : PostureUnit :=
  { u with hysteresis := min 100 h.toNat, dwell := max 1 (min 16 d.toNat), margin := min 300 m.toNat }

/-- A posture's profile replaced, the demands resolved when that posture is in force (R38). -/
def PostureUnit.withProfile (u : PostureUnit) (p : Posture) (q : Profile) : PostureUnit :=
  if u.posture = some p then ({ u with profiles := u.profiles.set p.number q }).resolveDemands
  else { u with profiles := u.profiles.set p.number q }

/-- A tracking mode set and the dwell cleared (R35). -/
def PostureUnit.withMode (u : PostureUnit) (mode : TrackMode) : PostureUnit :=
  { u with mode := mode, dwelling := none }

/-- The posture forced (R36). -/
def PostureUnit.forced (u : PostureUnit) (p : Posture) : PostureUnit :=
  { u with mode := .forced, dwelling := none, posture := some p }

/-- The lead panel replaced (R40). -/
def PostureUnit.withLead (u : PostureUnit) (x : Panel) : PostureUnit := { u with lead := x }

section
variable {s : State} (opened : s.portOpen = true)
include opened

theorem execZonesWrite_open (b1 b2 b3 b4 b5 : Half) :
    execZonesWrite b1 b2 b3 b4 b5 s =
      if Zones.valid ⟨b1.toNat, b2.toNat, b3.toNat, b4.toNat, b5.toNat⟩ = true then
        .next (({ s with posture := { s.posture with
          pendingZones := some ⟨b1.toNat, b2.toNat, b3.toNat, b4.toNat, b5.toNat⟩ } }).hold ⟨.done, []⟩)
      else .next (s.hold ⟨.range, []⟩) := by
  simp only [execZonesWrite, State.onCommand_open opened, zonesOf_eq]
  cases Zones.valid ⟨b1.toNat, b2.toNat, b3.toNat, b4.toNat, b5.toNat⟩ <;> rfl

theorem execPostureConfig_open (h d m : Half) :
    execPostureConfig h d m s = .next ((s.setPosture (s.posture.configured h d m).evaluatePreDemands).hold
      ⟨.done, byte2 (min 100 h.toNat) ++ byte2 (max 1 (min 16 d.toNat)) ++ byte2 (min 300 m.toNat)⟩) := by
  simp only [execPostureConfig, State.onCommand_open opened, clamp_eq (Nat.zero_le _), clamp_eq (show 1 ≤ 16 by decide),
    Nat.zero_max]
  rfl

theorem execProfileWrite_range {b : Byte} {f : RawProfile} (refused : postureOfByte b = none ∨ profileOf f = none) :
    execProfileWrite b f s = .next (s.hold ⟨.range, []⟩) := by
  rw [execProfileWrite, State.onCommand_open opened]
  split
  case h_1 p q posture profile => simp [posture, profile] at refused
  case h_2 => rfl

theorem execProfileWrite_done {b : Byte} {f : RawProfile} {p : Posture} {q : Profile} (posture : postureOfByte b = some p)
    (profile : profileOf f = some q) : execProfileWrite b f s =
      .next ((s.setPosture (s.posture.withProfile p q).evaluatePreDemands).hold ⟨.done, []⟩) := by
  simp only [execProfileWrite, State.onCommand_open opened, posture, profile]
  rfl

theorem execTrackModeTrack_open :
    execTrackModeTrack s = .next ((s.setPosture (s.posture.withMode .track).evaluatePreDemands).hold ⟨.done, []⟩) :=
  State.onCommand_open opened _

theorem execTrackModeHold_open :
    execTrackModeHold s = .next ((s.setPosture (s.posture.withMode .hold).evaluatePreDemands).hold ⟨.done, []⟩) :=
  State.onCommand_open opened _

theorem execTrackModeForce_range {b : Byte} (above : 5 < b.toNat) :
    execTrackModeForce b s = .next (s.hold ⟨.range, []⟩) := by
  simp only [execTrackModeForce, State.onCommand_open opened, postureOfByte_eq_none.2 above]
  rfl

theorem execTrackModeForce_done {b : Byte} {p : Posture} (names : postureOfByte b = some p) :
    execTrackModeForce b s = .next
      (((s.setPosture (s.posture.forced p).resolveDemands.evaluatePreDemands).raiseIf
        (s.posture.posture ≠ some p) .posture).hold ⟨.done, []⟩) := by
  simp only [execTrackModeForce, State.onCommand_open opened, names]
  rfl

theorem execLeadSet_range {b : Byte} (above : 1 < b.toNat) : execLeadSet b s = .next (s.hold ⟨.range, []⟩) := by
  simp only [execLeadSet, State.onCommand_open opened, panelOfByte_eq_none.2 above]
  rfl

theorem execLeadSet_same {b : Byte} {x : Panel} (names : panelOfByte b = some x) (same : s.posture.lead = x) :
    execLeadSet b s = .next (s.hold ⟨.done, []⟩) := by
  simp only [execLeadSet, State.onCommand_open opened, names, if_pos same]
  rfl

theorem execLeadSet_other {b : Byte} {x : Panel} (names : panelOfByte b = some x) (other : s.posture.lead ≠ x) :
    execLeadSet b s = .next
      ((s.setPosture (s.posture.withLead x).resolveDemands.evaluatePreDemands).hold ⟨.done, []⟩) := by
  simp only [execLeadSet, State.onCommand_open opened, names, if_neg other]
  rfl

end

theorem PostureUnit.withProfile_frame (u : PostureUnit) (p : Posture) (q : Profile) :
    u.withProfile p q = { u with
      profiles := u.profiles.set p.number q
      needA := (u.withProfile p q).needA, needB := (u.withProfile p q).needB } ∧
    ∀ x, ((u.withProfile p q).need x).delivered = (u.need x).delivered ∧
      ((u.withProfile p q).need x).demand =
        if u.posture = some p then (u.withProfile p q).demandOf x else (u.need x).demand := by
  unfold PostureUnit.withProfile
  split
  · exact ⟨rfl, fun x => by cases x <;> exact ⟨rfl, rfl⟩⟩
  · exact ⟨rfl, fun x => ⟨by cases x <;> rfl, by cases x <;> rfl⟩⟩

theorem panelOfByte_lead {b : Byte} (given : b.toNat ≤ 1) :
    panelOfByte b = some (if b.toNat = 0 then .a else .b) := by
  rw [panelOfByte_eq_some]
  split <;> simp only [Panel.number] <;> omega

theorem profileOf_eq_none {f : RawProfile} :
    profileOf f = none ↔ 3 < f.demandA.toNat ∨ 3 < f.demandB.toNat ∨ 1 < f.rotationA.toNat ∨ 1 < f.rotationB.toNat ∨
      1 < f.span.toNat := by
  simp only [← demandOfByte_eq_none, ← boolOfByte_eq_none, profileOf]
  cases demandOfByte f.demandA <;> [simp; skip]
  cases demandOfByte f.demandB <;> [simp; skip]
  cases boolOfByte f.rotationA <;> [simp; skip]
  cases boolOfByte f.rotationB <;> [simp; skip]
  cases boolOfByte f.span <;> simp

end Sys2Proof.Machine

open Sys2Proof Sys2Proof.Machine

/-- Settles O22: zones that follow each other leave each angle one zone, and a trigger leads past its end. -/
theorem zonesAndTriggersNameTheCandidate : Obligations.ZonesAndTriggersNameTheCandidate := by
  refine ⟨fun z a valid inRange => ?_, fun u a valid inRange => ⟨PostureUnit.candidate_none, fun c posture => ?_⟩⟩
  · obtain ⟨reached, below⟩ := (Zones.containing_iff valid inRange).1 rfl
    exact ⟨reached, below, fun p lower upper => ((Zones.containing_iff valid inRange).2 ⟨lower, upper⟩).symm⟩
  · rw [PostureUnit.candidate_some posture]
    refine ⟨fun notLast up => ?_, fun notFirst down => ?_, fun noUp noDown => if_neg ?_⟩
    · rw [if_pos (.inl ⟨notLast, up⟩)]
      exact ⟨rfl, Zones.containing_above valid notLast (by omega)⟩
    · rw [if_pos (.inr ⟨notFirst, down⟩)]
      exact ⟨rfl, Zones.containing_below valid (by omega)⟩
    · rintro (⟨notLast, up⟩ | ⟨notFirst, down⟩)
      · exact noUp.elim notLast fun short => absurd up (Nat.not_le.2 short)
      · exact noDown.elim notFirst fun short => absurd down (Nat.not_lt.2 short)

/-- Settles O23: evaluation rests outside TRACK or TRACKING, and else holds, waits or moves by the dwell's count. -/
theorem postureMovesAfterItsDwell : Obligations.PostureMovesAfterItsDwell := by
  intro u
  refine ⟨PostureUnit.evaluate_resting, fun a mode report => ?_⟩
  have waits := PostureUnit.evaluateAt_waits (u := u) (a := a)
  have moves := PostureUnit.evaluateAt_moves (u := u) (a := a)
  rw [PostureUnit.evaluate_tracking mode report]
  rw [dwellOn_count] at waits moves
  exact ⟨PostureUnit.evaluateAt_holds, waits, moves⟩

/-- Settles O24: demand by the profile's field, pre-demand by the neighbours within the margin. -/
theorem demandAndPreDemandFollowTheFold : Obligations.DemandAndPreDemandFollowTheFold := by
  refine ⟨fun u x => ⟨PostureUnit.demandOf_iff, ?_⟩, fun leadsel a x => ?_⟩
  · simp only [PostureUnit.preDemandOf_iff, PostureUnit.nearsUpper_iff, PostureUnit.nearsLower_iff]
  · obtain ⟨upperShut, upperPeek, upperBackfold⟩ := PostureUnit.reset_nearsUpper leadsel a x
    obtain ⟨lowerShut, lowerPeek, lowerBackfold⟩ := PostureUnit.reset_nearsLower leadsel a x
    refine ⟨(PostureUnit.defaultAt_preDemandOf leadsel a x .shut).trans ?_,
      (PostureUnit.defaultAt_preDemandOf leadsel a x .peek).trans ?_,
      (PostureUnit.defaultAt_preDemandOf leadsel a x .backfold).trans ?_⟩
    · rw [upperShut, lowerShut, PostureUnit.reset_wouldDemand]
      simp
    · rw [upperPeek, lowerPeek, PostureUnit.reset_wouldDemand]
      simp
    · rw [upperBackfold, lowerBackfold, PostureUnit.reset_wouldDemand]
      simp

/-- Settles O25: each settings command refused, or its fields replaced with the pre-demands evaluated and delivered. -/
theorem postureSettingsAreWritten : Obligations.PostureSettingsAreWritten := by
  intro s opened
  refine ⟨fun b1 b2 b3 b4 b5 => ⟨fun valid => ?_, fun invalid => ?_⟩, fun h d m => ?_,
    fun b f => ⟨fun p q posture profile => ?_, fun refused => ?_, profileOf_eq_none⟩,
    fun b => ⟨fun above => ?_, fun given same => ?_, fun given other => ?_⟩⟩
  · exact (execZonesWrite_open opened b1 b2 b3 b4 b5).trans (if_pos valid)
  · exact (execZonesWrite_open opened b1 b2 b3 b4 b5).trans (if_neg (Bool.eq_false_iff.1 invalid))
  · exact ⟨s.setPosture (s.posture.configured h d m).evaluatePreDemands,
      State.setPosture_evaluated_works rfl (fun x => by cases x <;> rfl), State.setPosture_evaluated _ s,
      fun x => (State.setPosture_demand _ s x).trans (by cases x <;> rfl), execPostureConfig_open opened h d m⟩
  · obtain ⟨frame, needs⟩ := s.posture.withProfile_frame p q
    refine ⟨s.setPosture (s.posture.withProfile p q).evaluatePreDemands,
      State.setPosture_evaluated_works (by rw [frame]) (fun x => (needs x).1), ?_, fun x => ?_,
      execProfileWrite_done opened posture profile⟩
    · rw [State.setPosture_evaluated, frame]
    · rw [State.setPosture_demand, (needs x).2, State.setPosture_evaluated]
      rfl
  · exact execProfileWrite_range opened (refused.imp_left postureOfByte_eq_none.2)
  · exact execLeadSet_range opened above
  · exact execLeadSet_same opened (panelOfByte_lead given) same
  · refine ⟨s.setPosture (s.posture.withLead (if b.toNat = 0 then .a else .b)).resolveDemands.evaluatePreDemands,
      State.setPosture_evaluated_works rfl (fun x => by cases x <;> rfl), State.setPosture_evaluated _ s,
      fun x => ?_, execLeadSet_other opened (panelOfByte_lead given) other⟩
    rw [State.setPosture_demand, PostureUnit.resolveDemands_demand, State.setPosture_demandOf]

/-- Settles O26: TRACK and HOLD keep the posture, FORCE replaces it; the dwell is cleared by each. -/
theorem trackModeKeepsOrForcesThePosture : Obligations.TrackModeKeepsOrForcesThePosture := by
  intro s opened
  refine ⟨⟨s.setPosture (s.posture.withMode .track).evaluatePreDemands, ?_, execTrackModeTrack_open opened,
      State.setPosture_evaluated _ s, fun x => ?_⟩,
    ⟨s.setPosture (s.posture.withMode .hold).evaluatePreDemands, ?_, execTrackModeHold_open opened,
      State.setPosture_evaluated _ s, fun x => ⟨?_, ?_⟩⟩,
    fun b => ⟨fun above => execTrackModeForce_range opened above, fun p names => ?_⟩,
    fun mode posture => State.onCommand_open opened _⟩
  · exact State.setPosture_evaluated_works rfl fun x => by cases x <;> rfl
  · exact (State.setPosture_demand _ s x).trans (by cases x <;> rfl)
  · exact State.setPosture_evaluated_works rfl fun x => by cases x <;> rfl
  · exact (State.setPosture_demand _ s x).trans (by cases x <;> rfl)
  · exact (State.setPosture_preDemand _ s x).trans (PostureUnit.preDemandOf_resting (show TrackMode.hold ≠ .track by decide))
  · have set := State.setPosture_evaluated (s.posture.forced p).resolveDemands s
    have works : s.PostureWorkOnly ((s.setPosture (s.posture.forced p).resolveDemands.evaluatePreDemands).raiseIf
        (s.posture.posture ≠ some p) .posture) := by
      exact State.setPosture_works (decide_eq_true_iff.trans ne_comm) (fun x => by cases x <;> rfl)
        fun x => by cases x <;> rfl
    refine ⟨_, works, execTrackModeForce_done opened (postureOfByte_eq_some.2 names), ?_, fun x => ?_, ?_⟩
    · rw [State.raiseIf_posture]
      exact set
    · rw [State.raiseIf_posture, State.setPosture_demand, PostureUnit.resolveDemands_demand, State.setPosture_demandOf]
      exact ⟨rfl, (State.setPosture_preDemand _ s x).trans
        (PostureUnit.preDemandOf_resting (show TrackMode.forced ≠ .track by decide))⟩
    · obtain ⟨-, -, flags⟩ := works
      have forced : (s.setPosture (s.posture.forced p).resolveDemands.evaluatePreDemands).posture.posture = some p := by
        rw [set]
        rfl
      rw [flags, State.raiseIf_posture, forced]
      constructor
      · rintro (before | ⟨-, changes⟩ | ⟨x, isPanel, -⟩)
        · exact .inl before
        · exact .inr changes.symm
        · cases x <;> nomatch isPanel
      · exact Or.imp_right fun changes => .inl ⟨rfl, changes.symm⟩
end

section
/-! PROOFS. What commands and events do to the Hinge Unit and the Posture Unit, said once; that they keep settings, zones,
dwell and angles in their ranges (O56). -/

namespace Sys2Proof.Machine

/-! ## What a step does to the fold's two units -/

/-- The unit with its pre-demands evaluated and its pairs delivered (R42, R44). -/
def PostureUnit.settled (u : PostureUnit) : PostureUnit :=
  { u.evaluatePreDemands with
    needA := { u.evaluatePreDemands.needA with delivered := u.evaluatePreDemands.needA.pair }
    needB := { u.evaluatePreDemands.needB with delivered := u.evaluatePreDemands.needB.pair } }

theorem State.setPosture_posture (u : PostureUnit) (s : State) :
    (s.setPosture u.evaluatePreDemands).posture = u.settled := by
  rw [State.setPosture_frame]
  rfl

theorem State.setPosture_hinge (u : PostureUnit) (s : State) : (s.setPosture u).hinge = s.hinge := by
  rw [State.setPosture_frame]

/-- The unit as a command of chapter 2 sets it, its demands resolved where the command asks for it. -/
inductive PostureUnit.SetBy (c : Instr) (u : PostureUnit) : PostureUnit → Prop
  | configured (h d m : Half) (command : c = .postureConfig h d m) : SetBy c u (u.configured h d m)
  | profile {b : Byte} {f : RawProfile} (p : Posture) (q : Profile) (command : c = .profileWrite b f) :
      SetBy c u (u.withProfile p q)
  | tracks (command : c = .trackModeTrack) : SetBy c u (u.withMode .track)
  | holds (command : c = .trackModeHold) : SetBy c u (u.withMode .hold)
  | forced {b : Byte} (p : Posture) (command : c = .trackModeForce b) : SetBy c u (u.forced p).resolveDemands
  | lead {b : Byte} (x : Panel) (command : c = .leadSet b) : SetBy c u (u.withLead x).resolveDemands

/-- The unit as a sample completion leaves it with the angle reported to it (R29). -/
def PostureUnit.sampled (u : PostureUnit) (report : AngleReport) : PostureUnit :=
  ({ u with report := report }).takePendingZones.evaluate

/-- The events at which a sample can end. -/
def endsSample (c : Instr) : Prop :=
  c = .sampleIntervalExpiry ∨ (∃ p raw ok, c = .sensorReply p raw ok) ∨ ∃ p, c = .sensorReadTimeout p

/-- What a command or event makes of the Hinge Unit and the Posture Unit: `held` tells that RESETN is low. -/
inductive FoldStep (c : Instr) (held : Bool) (h : Hinge) (u : PostureUnit) : Hinge → PostureUnit → Prop
  | stands : FoldStep c held h u h u
  | hingeConfigured (i k l : Half) (command : c = .hingeConfig i k l) : FoldStep c held h u { h with
      interval := max 5 (min 50 i.toNat), shift := min 4 k.toNat, skewLimit := max 8 (min 255 l.toNat) } u
  | zeros (zl zr : Half) (command : c = .zeroWrite zl zr) : FoldStep c held h u { h with
      left := { h.left with zero := zl.setWidth 12 }, right := { h.right with zero := zr.setWidth 12 }
      seedPending := true } u
  | captureStarts (command : c = .zeroCapture) : FoldStep c held h u { h with capture := some .started } u
  | zonesWritten {b1 b2 b3 b4 b5 : Half} (z : Zones) (command : c = .zonesWrite b1 b2 b3 b4 b5) (valid : z.valid = true) :
      FoldStep c held h u h { u with pendingZones := some z }
  | set (running : held = false) (v : PostureUnit) (by_ : u.SetBy c v) : FoldStep c held h u h v.settled
  | waits (command : endsSample c) (o : Option Sample) (n : Nat) : FoldStep c held h u { h with sample := o, nextSampleAt := n } u
  | completes (command : endsSample c) (running : held = false) (straps : Straps) (sm : Sample) (o : Option Sample) (n : Nat) :
      FoldStep c held h u { (h.complete straps sm).unit with sample := o, nextSampleAt := n }
        (u.sampled (h.complete straps sm).unit.angle.report).resolveDemands.settled
  | released {straps : Straps} (command : c = .resetnRelease straps) (low : held = true) (n : Nat) (x : Panel) :
      FoldStep c held h u { h with nextSampleAt := n } { u with lead := x }
  | softReset (command : c = .softReset) (n : Nat) (leadsel : Bool) :
      FoldStep c held h u (h.softReset n) (PostureUnit.reset leadsel)
  | pinReset {n : Nat} (command : c = .pinReset n) (leadsel : Bool) :
      FoldStep c held h u Hinge.reset (PostureUnit.reset leadsel)

/-- A step of the state's two units. -/
def State.FoldsTo (c : Instr) (s t : State) : Prop := FoldStep c s.inReset s.hinge s.posture t.hinge t.posture

theorem State.FoldsTo.of_same {c : Instr} {s t : State} (hinge : t.hinge = s.hinge) (posture : t.posture = s.posture) :
    s.FoldsTo c t := by
  unfold State.FoldsTo
  rw [hinge, posture]
  exact .stands

section
variable {s t : State}

theorem State.closed_folds {c : Instr} {work : State → State × Reply} (h : s.onCommand work = .next t)
    (closed : s.portOpen = false) : s.FoldsTo c t := by
  rw [State.onCommand_closed closed] at h
  cases h
  exact .of_same rfl rfl

theorem execHingeConfig_folds {i k l : Half} (h : execHingeConfig i k l s = .next t) : s.FoldsTo (.hingeConfig i k l) t := by
  cases opened : s.portOpen
  · exact State.closed_folds h opened
  cases capture : s.hinge.capture with
  | none =>
    rw [execHingeConfig_done opened capture] at h
    cases h
    exact .hingeConfigured i k l rfl
  | some _ =>
    rw [execHingeConfig_busy opened (by rw [capture]; rfl)] at h
    cases h
    exact .of_same rfl rfl

theorem execZeroWrite_folds {zl zr : Half} (h : execZeroWrite zl zr s = .next t) : s.FoldsTo (.zeroWrite zl zr) t := by
  cases opened : s.portOpen
  · exact State.closed_folds h opened
  by_cases above : 4096 ≤ zl.toNat ∨ 4096 ≤ zr.toNat
  · rw [execZeroWrite_range opened above] at h
    cases h
    exact .of_same rfl rfl
  cases capture : s.hinge.capture with
  | none =>
    rw [execZeroWrite_done opened above capture] at h
    cases h
    exact .zeros zl zr rfl
  | some _ =>
    rw [execZeroWrite_busy opened above (by rw [capture]; rfl)] at h
    cases h
    exact .of_same rfl rfl

theorem execZeroCapture_folds (h : execZeroCapture s = .next t) : s.FoldsTo .zeroCapture t := by
  cases opened : s.portOpen
  · exact State.closed_folds h opened
  cases capture : s.hinge.capture with
  | none =>
    rw [execZeroCapture_starts opened capture] at h
    cases h
    exact .captureStarts rfl
  | some _ =>
    rw [execZeroCapture_busy opened (by rw [capture]; rfl)] at h
    cases h
    exact .of_same rfl rfl

theorem execZonesWrite_folds {b1 b2 b3 b4 b5 : Half} (h : execZonesWrite b1 b2 b3 b4 b5 s = .next t) :
    s.FoldsTo (.zonesWrite b1 b2 b3 b4 b5) t := by
  cases opened : s.portOpen
  · exact State.closed_folds h opened
  rw [execZonesWrite_open opened] at h
  split at h
  case isTrue valid =>
    cases h
    exact .zonesWritten _ rfl valid
  case isFalse =>
    cases h
    exact .of_same rfl rfl

theorem State.running_of_open (opened : s.portOpen = true) : s.inReset = false := by
  simp only [State.portOpen, Bool.and_eq_true, Bool.not_eq_true'] at opened
  exact opened.1

/-- A posture command that answers with its settings delivered. -/
theorem State.FoldsTo.of_set {c : Instr} {v : PostureUnit} (opened : s.portOpen = true) (by_ : s.posture.SetBy c v) (b : Bool) (g : Flag) (r : Reply) :
    s.FoldsTo c (((s.setPosture v.evaluatePreDemands).raiseIf b g).hold r) := by
  unfold State.FoldsTo
  rw [State.hold_hinge, State.hold_posture, State.raiseIf_hinge, State.raiseIf_posture, State.setPosture_hinge,
    State.setPosture_posture]
  exact .set (State.running_of_open opened) v by_

theorem execPostureConfig_folds {hy d m : Half} (h : execPostureConfig hy d m s = .next t) :
    s.FoldsTo (.postureConfig hy d m) t := by
  cases opened : s.portOpen
  · exact State.closed_folds h opened
  rw [execPostureConfig_open opened] at h
  cases h
  exact .of_set opened (.configured hy d m rfl) false .posture _

theorem execProfileWrite_folds {b : Byte} {f : RawProfile} (h : execProfileWrite b f s = .next t) :
    s.FoldsTo (.profileWrite b f) t := by
  cases opened : s.portOpen
  · exact State.closed_folds h opened
  cases posture : postureOfByte b with
  | none =>
    rw [execProfileWrite_range opened (.inl posture)] at h
    cases h
    exact .of_same rfl rfl
  | some p =>
    cases profile : profileOf f with
    | none =>
      rw [execProfileWrite_range opened (.inr profile)] at h
      cases h
      exact .of_same rfl rfl
    | some q =>
      rw [execProfileWrite_done opened posture profile] at h
      cases h
      exact .of_set opened (.profile p q rfl) false .posture _

theorem execTrackModeTrack_folds (h : execTrackModeTrack s = .next t) : s.FoldsTo .trackModeTrack t := by
  cases opened : s.portOpen
  · exact State.closed_folds h opened
  rw [execTrackModeTrack_open opened] at h
  cases h
  exact .of_set opened (.tracks rfl) false .posture _

theorem execTrackModeHold_folds (h : execTrackModeHold s = .next t) : s.FoldsTo .trackModeHold t := by
  cases opened : s.portOpen
  · exact State.closed_folds h opened
  rw [execTrackModeHold_open opened] at h
  cases h
  exact .of_set opened (.holds rfl) false .posture _

theorem execTrackModeForce_folds {b : Byte} (h : execTrackModeForce b s = .next t) : s.FoldsTo (.trackModeForce b) t := by
  cases opened : s.portOpen
  · exact State.closed_folds h opened
  cases names : postureOfByte b with
  | none =>
    rw [execTrackModeForce_range opened (postureOfByte_eq_none.1 names)] at h
    cases h
    exact .of_same rfl rfl
  | some p =>
    rw [execTrackModeForce_done opened names] at h
    cases h
    exact .of_set opened (.forced p rfl) _ .posture _

theorem execLeadSet_folds {b : Byte} (h : execLeadSet b s = .next t) : s.FoldsTo (.leadSet b) t := by
  cases opened : s.portOpen
  · exact State.closed_folds h opened
  cases names : panelOfByte b with
  | none =>
    rw [execLeadSet_range opened (panelOfByte_eq_none.1 names)] at h
    cases h
    exact .of_same rfl rfl
  | some x =>
    by_cases same : s.posture.lead = x
    · rw [execLeadSet_same opened names same] at h
      cases h
      exact .of_same rfl rfl
    · rw [execLeadSet_other opened names same] at h
      cases h
      exact .of_set opened (.lead x rfl) false .posture _

theorem State.completeSample_posture (sm : Sample) (s : State) : (s.completeSample sm).posture =
    (s.posture.sampled (s.hinge.complete s.port.straps sm).unit.angle.report).resolveDemands.settled := by
  simp only [State.completeSample, State.postureWork, State.raiseIf_posture]
  exact (State.setPosture_posture _ _).trans rfl

/-- The end of reads, with the next sample then waited for. -/
theorem State.ReadsEnd.folds {c : Instr} (command : endsSample c) (running : s.inReset = false) (ends : s.ReadsEnd t) (o : Option Sample) (n : Nat) :
    FoldStep c s.inReset s.hinge s.posture { t.hinge with sample := o, nextSampleAt := n } t.posture := by
  cases ends with
  | waits => exact .waits command o n
  | completes k later sm =>
    rw [State.completeSample_hinge, State.completeSample_posture]
    exact .completes command running s.port.straps sm o n

theorem execSensorReply_folds {p : Pivot} {raw : RawCount} {ok : Bool} (h : execSensorReply p raw ok s = .next t) :
    s.FoldsTo (.sensorReply p raw ok) t := by
  obtain ⟨-, rfl⟩ | ⟨running, rfl⟩ := State.onEvent_next h
  · exact .stands
  · exact (State.readsEnd_endRead (s := s) s.now le_rfl).folds (.inr (.inl ⟨p, raw, ok, rfl⟩)) running _ _

theorem execSensorReadTimeout_folds {p : Pivot} (h : execSensorReadTimeout p s = .next t) :
    s.FoldsTo (.sensorReadTimeout p) t := by
  obtain ⟨-, rfl⟩ | ⟨running, rfl⟩ := State.onEvent_next h
  · exact .stands
  · exact (State.readsEnd_readTimesOut (s := s) s.now le_rfl).folds (.inr (.inr ⟨p, rfl⟩)) running _ _

theorem execSampleIntervalExpiry_folds (h : execSampleIntervalExpiry s = .next t) : s.FoldsTo .sampleIntervalExpiry t := by
  obtain ⟨-, rfl⟩ | ⟨running, rfl⟩ := State.onEvent_next h
  · exact .stands
  · exact (State.readsEnd_both (s := s)).folds (.inl rfl) running _ _

theorem execResetnRelease_folds {straps : Straps} (h : execResetnRelease straps s = .next t) :
    s.FoldsTo (.resetnRelease straps) t := by
  simp only [execResetnRelease, Host.Outcome.next.injEq] at h
  subst h
  split
  case isTrue low => exact .released rfl low _ _
  case isFalse => exact .stands

end

theorem exec_folds {c : Instr} {s t : State} (h : exec c s = .next t) : s.FoldsTo c t := by
  cases c
  case hingeConfig => exact execHingeConfig_folds h
  case zeroWrite => exact execZeroWrite_folds h
  case zeroCapture => exact execZeroCapture_folds h
  case zonesWrite => exact execZonesWrite_folds h
  case postureConfig => exact execPostureConfig_folds h
  case profileWrite => exact execProfileWrite_folds h
  case trackModeTrack => exact execTrackModeTrack_folds h
  case trackModeHold => exact execTrackModeHold_folds h
  case trackModeForce => exact execTrackModeForce_folds h
  case leadSet => exact execLeadSet_folds h
  case sensorReply => exact execSensorReply_folds h
  case sensorReadTimeout => exact execSensorReadTimeout_folds h
  case sampleIntervalExpiry => exact execSampleIntervalExpiry_folds h
  case resetnRelease => exact execResetnRelease_folds h
  case softReset =>
    obtain rfl | rfl := execSoftReset_next h
    · exact .stands
    · exact .softReset rfl s.now s.port.straps.leadsel
  case pinReset n =>
    obtain ⟨k, rfl | rfl⟩ := execPinReset_next h
    · exact .stands
    · exact .pinReset rfl s.port.straps.leadsel
  all_goals exact .of_same (exec_same h .hinge rfl) (exec_same h .posture rfl)

/-! ## Ranges of the Hinge Unit (R7 to R18, R21) -/

/-- The settings clamped, the angles inside 0 to 3600, the capture short of its sixteenth sample. -/
structure Hinge.InRange (h : Hinge) : Prop where
  interval : 5 ≤ h.interval ∧ h.interval ≤ 50
  shift : h.shift ≤ 4
  skewLimit : 8 ≤ h.skewLimit ∧ h.skewLimit ≤ 255
  angle : h.angle.Sound
  instant : ∀ a ∈ h.instant, a ≤ 3600
  capture : ∀ c ∈ h.capture, c.Sound

theorem Hinge.reset_inRange : Hinge.reset.InRange :=
  ⟨by decide, by decide, by decide, trivial, nofun, nofun⟩

theorem Hinge.softReset_inRange (n : Nat) (h : Hinge) : (h.softReset n).InRange :=
  ⟨Hinge.reset_inRange.interval, Hinge.reset_inRange.shift, Hinge.reset_inRange.skewLimit, trivial, nofun, nofun⟩

theorem clampDelta_le (d : Int) : clampDelta d ≤ 2048 := by
  have := clampDelta_eq d
  omega

section
variable (straps : Straps) (sm : Sample) (h : Hinge)

/-- A sample gives no angle, and then a pivot was not fresh and the angle before it stands; or one inside the range. -/
theorem Hinge.angleOf_cases :
    (h.angleOf straps sm = none ∧ (h.complete straps sm).unit.instant = h.instant ∧
      (sm.left.isFresh && sm.right.isFresh) = false) ∨
    ∃ a, a ≤ 3600 ∧ h.angleOf straps sm = some a ∧ (h.complete straps sm).unit.instant = some a := by
  by_cases angled : ∃ rawL rawR, h.produces sm rawL rawR
  · obtain ⟨rawL, rawR, produces⟩ := angled
    exact .inr ⟨_, foldAngle_le (clampDelta_le _) (clampDelta_le _), Hinge.angleOf_of_produces straps produces,
      (h.complete_records straps produces).2.2.2.2⟩
  · push Not at angled
    have missing := Hinge.missing_of_not_produces angled
    obtain ⟨left, right⟩ := h.gathered_pivots sm
    have silent := Hinge.measure_of_missing straps sm (h := (h.gathered sm).unit) (by rwa [left, right])
    obtain ⟨zl, zr, p, c, r, a, n, frame⟩ := h.complete_frame straps sm
    obtain ⟨c', r', gathered⟩ := HingeWork.accumulate_unit sm ⟨h.taken sm, false, false⟩
    have judged : (h.judged straps sm).unit = (h.gathered sm).unit := congrArg Prod.fst silent
    refine .inl ⟨congrArg Prod.snd silent, ?_, PivotState.stale_of_missing missing⟩
    rw [frame, judged, Hinge.gathered, gathered]
    rfl

variable {straps sm h}

theorem AngleTrack.Sound.seeded {a : Nat} (range : a ≤ 3600) : (AngleTrack.tracking (a * 256)).Sound :=
  show a * 256 ≤ 921600 by omega

/-- FAULTED gathers faults and counts fewer than eight clean samples. -/
theorem HingeWork.staysFaulted_sound {w : HingeWork} {f n : Nat} {g : AngleFaults} (filter : f ≤ 921600)
    (faults : g.any = true) (few : w.unit.cleanCount sm n < 8) : (w.staysFaulted sm f g n).unit.angle.Sound := by
  refine ⟨filter, ?_, Nat.le_of_lt_succ few⟩
  simp only [AngleFaults.any, AngleFaults.union, Bool.or_eq_true] at faults ⊢
  tauto

/-- The angle state stays sound when the angle of the sample is in range, and missing only from a sample not clean. -/
theorem HingeWork.handleAngle_sound {w : HingeWork} {angle : Option Nat} (sound : w.unit.angle.Sound)
    (range : ∀ a ∈ angle, a ≤ 3600) (stale : angle = none → (sm.left.isFresh && sm.right.isFresh) = false) :
    (w.handleAngle sm angle).unit.angle.Sound := by
  cases state : w.unit.angle with
  | acquiring =>
    cases angle with
    | none => rwa [HingeWork.handleAngle_acquiring state]
    | some a =>
      rw [HingeWork.handleAngle_seeds state]
      exact .seeded (range a rfl)
  | tracking f =>
    have filter : f ≤ 921600 := by rwa [state] at sound
    cases conditions : w.unit.conditions.any with
    | true =>
      rw [HingeWork.handleAngle_faults state conditions]
      exact ⟨filter, conditions, Nat.zero_le 7⟩
    | false =>
      cases angle with
      | none => rwa [HingeWork.handleAngle_holds state conditions]
      | some a =>
        rw [HingeWork.handleAngle_tracks state conditions]
        dsimp only
        split
        · exact .seeded (range a rfl)
        · exact filterStep_le (range a rfl) filter
  | faulted f g n =>
    obtain ⟨filter, faults, few⟩ : f ≤ 921600 ∧ g.any = true ∧ n ≤ 7 := by rwa [state] at sound
    cases angle with
    | none =>
      have none_clean : w.unit.cleanCount sm n = 0 := by simp [Hinge.cleanCount, Hinge.isClean, stale rfl]
      rw [HingeWork.handleAngle_stays_none state]
      exact HingeWork.staysFaulted_sound filter faults (by rw [none_clean]; decide)
    | some a =>
      by_cases clean : 8 ≤ w.unit.cleanCount sm n
      · rw [HingeWork.handleAngle_recovers state clean]
        exact .seeded (range a rfl)
      · rw [HingeWork.handleAngle_stays state (Nat.lt_of_not_le clean)]
        exact HingeWork.staysFaulted_sound filter faults (Nat.lt_of_not_le clean)

theorem CaptureSum.bounded_add {c : CaptureSum} {n : Nat} (bounded : c.Bounded n) (raw : RawCount) :
    (c.add raw).Bounded (n + 1) := by
  have offset := captureOffset_bounds c.first raw
  unfold CaptureSum.Bounded CaptureSum.add at *
  push_cast
  omega

/-- A sound capture that takes a sample is sound, or has its sixteenth. -/
theorem Capture.count_sound {c : Capture} (sound : c.Sound) (rawL rawR : RawCount) :
    (c.count rawL rawR).Sound ∨ ∃ l r, c.count rawL rawR = .counting 16 l r := by
  have empty : ∀ raw, CaptureSum.Bounded 0 ⟨raw, 0⟩ := fun raw => ⟨by simp, by simp⟩
  cases c with
  | started =>
    exact .inl ⟨by omega, by omega, CaptureSum.bounded_add (empty rawL) rawL, CaptureSum.bounded_add (empty rawR) rawR⟩
  | counting n l r =>
    obtain ⟨some_, few, left, right⟩ := sound
    by_cases last : n = 15
    · exact .inr ⟨l.add rawL, r.add rawR, by rw [last]; rfl⟩
    · exact .inl ⟨by omega, by omega, CaptureSum.bounded_add left rawL, CaptureSum.bounded_add right rawR⟩

theorem HingeWork.accumulate_capture {w : HingeWork} (sound : ∀ c ∈ w.unit.capture, c.Sound) :
    (∀ c ∈ (w.accumulate sm).unit.capture, c.Sound) ∨ ∃ l r, (w.accumulate sm).unit.capture = some (.counting 16 l r) := by
  unfold HingeWork.accumulate
  split
  · exact .inl sound
  · next c running =>
    split <;> [exact .inl sound; split]
    · next rawL rawR _ _ =>
      obtain next_ | ⟨l, r, last⟩ := Capture.count_sound (sound c running) rawL rawR
      · exact .inl fun d is => (Option.some.inj is) ▸ next_
      · exact .inr ⟨l, r, congrArg some last⟩
    · exact .inl nofun

theorem Hinge.complete_inRange (range : h.InRange) : (h.complete straps sm).unit.InRange := by
  obtain ⟨-, -, interval, shift, limit, -⟩ := h.complete_settings straps sm
  have gathered := HingeWork.accumulate_capture (sm := sm) (w := ⟨h.taken sm, false, false⟩) range.capture
  refine ⟨interval ▸ range.interval, shift ▸ range.shift, limit ▸ range.skewLimit, ?_, ?_, ?_⟩
  · rw [(h.complete_angle straps sm).1]
    have before : (h.judged straps sm).unit.angle.Sound := (h.judged_angle straps sm).1 ▸ range.angle
    obtain ⟨none_, -, stale⟩ | ⟨a, inside, some_, -⟩ := h.angleOf_cases straps sm
    · exact HingeWork.handleAngle_sound before (by simp [none_]) fun _ => stale
    · exact HingeWork.handleAngle_sound before (by simpa [some_] using inside) (by simp [some_])
  · obtain ⟨-, kept, -⟩ | ⟨a, inside, -, taken⟩ := h.angleOf_cases straps sm
    · exact kept ▸ range.instant
    · simpa [taken] using inside
  · by_cases ends : ∃ l r, (h.gathered sm).unit.capture = some (.counting 16 l r)
    · obtain ⟨l, r, sixteenth⟩ := ends
      simp [(Hinge.complete_capture_ends straps sixteenth).2.2.2.1]
    · obtain ⟨-, kept, -⟩ := h.complete_capture_keeps straps sm fun l r last => ends ⟨l, r, last⟩
      rw [kept]
      exact gathered.resolve_right ends

/-- The angle of the report is that of the filter, rounded. -/
theorem AngleTrack.Sound.report {k : AngleTrack} (sound : k.Sound) : ∀ a ∈ k.report.angle?, a ≤ 3600 := by
  cases k with
  | acquiring => nofun
  | tracking f => exact fun a is => (Option.some.inj is) ▸ reportedOf_le sound
  | faulted f g n => exact fun a is => (Option.some.inj is) ▸ reportedOf_le sound.1

end

/-! ## Ranges of the Posture Unit (R25, R26, R33, R34) -/

structure PostureUnit.InRange (u : PostureUnit) : Prop where
  hysteresis : u.hysteresis ≤ 100
  dwell : 1 ≤ u.dwell ∧ u.dwell ≤ 16
  margin : u.margin ≤ 300
  zones : u.zones.valid = true
  pending : ∀ z ∈ u.pendingZones, z.valid = true
  dwelling : ∀ d ∈ u.dwelling, 1 ≤ d.count ∧ d.count ≤ 15 ∧ u.posture ≠ some d.candidate
  report : ∀ a ∈ u.report.angle?, a ≤ 3600

theorem PostureUnit.reset_inRange (leadsel : Bool) : (PostureUnit.reset leadsel).InRange :=
  ⟨by decide +revert, by decide +revert, by decide +revert, by decide +revert, nofun, nofun, nofun⟩

section
variable {u : PostureUnit}

/-- Demands and deliveries touch none of the ranges. -/
theorem PostureUnit.InRange.settled (range : u.InRange) : u.settled.InRange :=
  ⟨range.hysteresis, range.dwell, range.margin, range.zones, range.pending, range.dwelling, range.report⟩

theorem PostureUnit.InRange.resolveDemands (range : u.InRange) : u.resolveDemands.InRange :=
  ⟨range.hysteresis, range.dwell, range.margin, range.zones, range.pending, range.dwelling, range.report⟩

theorem PostureUnit.InRange.setBy {c : Instr} {v : PostureUnit} (range : u.InRange) (by_ : u.SetBy c v) : v.InRange := by
  cases by_ with
  | configured h d m =>
    exact ⟨Nat.min_le_left .., ⟨Nat.le_max_left .., max_le (by decide) (Nat.min_le_left ..)⟩, Nat.min_le_left ..,
      range.zones, range.pending, range.dwelling, range.report⟩
  | profile p q =>
    have replaced : ({ u with profiles := u.profiles.set p.number q } : PostureUnit).InRange :=
      ⟨range.hysteresis, range.dwell, range.margin, range.zones, range.pending, range.dwelling, range.report⟩
    unfold PostureUnit.withProfile
    split
    · exact replaced.resolveDemands
    · exact replaced
  | tracks => exact ⟨range.hysteresis, range.dwell, range.margin, range.zones, range.pending, nofun, range.report⟩
  | holds => exact ⟨range.hysteresis, range.dwell, range.margin, range.zones, range.pending, nofun, range.report⟩
  | forced p => exact ⟨range.hysteresis, range.dwell, range.margin, range.zones, range.pending, nofun, range.report⟩
  | lead x =>
    exact ⟨range.hysteresis, range.dwell, range.margin, range.zones, range.pending, range.dwelling, range.report⟩

/-- A pending table comes in force, and a dwell begun under the old one is dropped. -/
theorem PostureUnit.InRange.takePendingZones (range : u.InRange) : u.takePendingZones.InRange := by
  unfold PostureUnit.takePendingZones
  split
  · exact range
  · next z pending =>
    exact ⟨range.hysteresis, range.dwell, range.margin, range.pending z pending, nofun, nofun, range.report⟩

theorem PostureUnit.InRange.evaluate (range : u.InRange) : u.evaluate.InRange := by
  have rests : ({ u with dwelling := none } : PostureUnit).InRange :=
    ⟨range.hysteresis, range.dwell, range.margin, range.zones, range.pending, nofun, range.report⟩
  by_cases tracking : u.mode = .track ∧ ∃ a, u.report = .tracking a
  · obtain ⟨mode, a, report⟩ := tracking
    rw [PostureUnit.evaluate_tracking mode report]
    by_cases holds : u.posture = some (u.candidate a)
    · rwa [PostureUnit.evaluateAt_holds holds]
    by_cases long : u.dwell ≤ (dwellOn u.dwelling (u.candidate a)).count
    · rw [PostureUnit.evaluateAt_moves holds long]
      exact ⟨range.hysteresis, range.dwell, range.margin, range.zones, range.pending, nofun, range.report⟩
    · have counted : 1 ≤ (dwellOn u.dwelling (u.candidate a)).count := by
        rw [dwellOn_count]
        split <;> [split; skip] <;> omega
      rw [PostureUnit.evaluateAt_waits holds (Nat.lt_of_not_le long)]
      refine ⟨range.hysteresis, range.dwell, range.margin, range.zones, range.pending, fun d is => ?_, range.report⟩
      obtain rfl := Option.some.inj is
      have most := range.dwell.2
      exact ⟨counted, by dsimp only; omega, holds⟩
  · rwa [PostureUnit.evaluate_resting (by
      by_cases mode : u.mode = .track
      · exact .inr fun a report => tracking ⟨mode, a, report⟩
      · exact .inl mode)]

theorem PostureUnit.InRange.sampled (range : u.InRange) {report : AngleReport} (inside : ∀ a ∈ report.angle?, a ≤ 3600) :
    (u.sampled report).InRange :=
  have reported : ({ u with report := report } : PostureUnit).InRange :=
    ⟨range.hysteresis, range.dwell, range.margin, range.zones, range.pending, range.dwelling, inside⟩
  reported.takePendingZones.evaluate

/-- Every step of the two units keeps their ranges. -/
theorem FoldStep.keeps_inRange {c : Instr} {held : Bool} {h h' : Hinge} {u' : PostureUnit} (step : FoldStep c held h u h' u')
    (hinge : h.InRange) (posture : u.InRange) : h'.InRange ∧ u'.InRange := by
  cases step with
  | stands => exact ⟨hinge, posture⟩
  | hingeConfigured i k l =>
    refine ⟨⟨⟨Nat.le_max_left .., ?_⟩, Nat.min_le_left .., ⟨Nat.le_max_left .., ?_⟩, hinge.angle, hinge.instant,
      hinge.capture⟩, posture⟩ <;> exact max_le (by decide) (Nat.min_le_left ..)
  | zeros zl zr =>
    exact ⟨⟨hinge.interval, hinge.shift, hinge.skewLimit, hinge.angle, hinge.instant, hinge.capture⟩, posture⟩
  | captureStarts =>
    exact ⟨⟨hinge.interval, hinge.shift, hinge.skewLimit, hinge.angle, hinge.instant,
      fun c is => (Option.some.inj is) ▸ trivial⟩, posture⟩
  | zonesWritten z command valid =>
    exact ⟨hinge, ⟨posture.hysteresis, posture.dwell, posture.margin, posture.zones,
      fun z' is => (Option.some.inj is) ▸ valid, posture.dwelling, posture.report⟩⟩
  | set running v by_ => exact ⟨hinge, (posture.setBy by_).settled⟩
  | waits command o n =>
    exact ⟨⟨hinge.interval, hinge.shift, hinge.skewLimit, hinge.angle, hinge.instant, hinge.capture⟩, posture⟩
  | completes command running straps sm o n =>
    have after := Hinge.complete_inRange (straps := straps) (sm := sm) hinge
    exact ⟨⟨after.interval, after.shift, after.skewLimit, after.angle, after.instant, after.capture⟩,
      (posture.sampled after.angle.report).resolveDemands.settled⟩
  | released command low n x =>
    exact ⟨⟨hinge.interval, hinge.shift, hinge.skewLimit, hinge.angle, hinge.instant, hinge.capture⟩,
      ⟨posture.hysteresis, posture.dwell, posture.margin, posture.zones, posture.pending, posture.dwelling, posture.report⟩⟩
  | softReset command n leadsel => exact ⟨h.softReset_inRange n, PostureUnit.reset_inRange leadsel⟩
  | pinReset command leadsel => exact ⟨Hinge.reset_inRange, PostureUnit.reset_inRange leadsel⟩

end

/-! ## The linger time (R139) -/

/-- The linger time is set by PANEL CONFIG within its range, put back by a reset, and else kept. -/
theorem exec_lingerTime {c : Instr} {s t : State} (h : exec c s = .next t) (range : s.lingerTime ≤ 10000) :
    t.lingerTime ≤ 10000 := by
  cases c
  case panelConfig l =>
    obtain ⟨-, rfl⟩ | ⟨-, rfl⟩ := State.onCommand_next (work := fun s => done { s with
      lingerTime := clamp 0 10000 l.toNat } (byte2 (clamp 0 10000 l.toNat))) h
    · exact range
    · show clamp 0 10000 l.toNat ≤ 10000
      rw [clamp_eq (by decide)]
      omega
  case softReset =>
    obtain rfl | rfl := execSoftReset_next h
    · exact range
    · show State.reset.lingerTime ≤ 10000
      decide
  case pinReset n =>
    obtain ⟨k, rfl | rfl⟩ := execPinReset_next h
    · exact range
    · show State.reset.lingerTime ≤ 10000
      decide
  all_goals exact (exec_same h .linger rfl).trans_le range

/-- The ranges of O56, by unit. -/
theorem State.inRange_iff {s : State} : (s.SettingsInRange ∧ s.ZonesInOrder ∧ s.DwellSound ∧ s.HingeSound) ↔
    s.hinge.InRange ∧ s.posture.InRange ∧ s.lingerTime ≤ 10000 := by
  constructor
  · rintro ⟨⟨interval, shift, limit, hysteresis, dwell, margin, linger⟩, ⟨zones, pending⟩, ⟨dwelling, -⟩,
      ⟨angle, instant, report, capture⟩⟩
    exact ⟨⟨interval, shift, limit, angle, instant, capture⟩,
      ⟨hysteresis, dwell, margin, zones, pending, dwelling, report⟩, linger⟩
  · rintro ⟨hinge, posture, linger⟩
    exact ⟨⟨hinge.interval, hinge.shift, hinge.skewLimit, posture.hysteresis, posture.dwell, posture.margin, linger⟩,
      ⟨posture.zones, posture.pending⟩, ⟨posture.dwelling, posture.dwell⟩,
      ⟨hinge.angle, hinge.instant, posture.report, hinge.capture⟩⟩

end Sys2Proof.Machine

open Sys2Proof Sys2Proof.Machine

/-- Settles O56, by what a step does to the Hinge Unit and the Posture Unit. -/
theorem stepKeepsSettingsAndAnglesInRange : Obligations.StepKeepsSettingsAndAnglesInRange := by
  unfold Obligations.StepKeepsSettingsAndAnglesInRange
  simp only [State.inRange_iff]
  refine fun s t sound h => step_keeps (P := fun s => s.hinge.InRange ∧ s.posture.InRange ∧ s.lingerTime ≤ 10000)
    (fun s n sound => sound) (fun s q sound => sound) ?_ sound h
  rintro c s t ⟨hinge, posture, linger⟩ h
  obtain ⟨hinge', posture'⟩ := (exec_folds h).keeps_inRange hinge posture
  exact ⟨hinge', posture', exec_lingerTime h linger⟩

end

section
/-! PROOFS. What commands and events do to each panel, said once; that demand stays in force and the panels sound (O59). -/

namespace Sys2Proof.Machine

/-! ## The events of a run, as panel events -/

section
variable (c : Instr) (env : PanelEnv) (u : PanelUnit)

/-- A transaction of the run under way waits for blanking or is sent (R169, R170). -/
theorem PanelEvent.of_transact {r : Run} (running : u.run = some r) (code : Byte) (args : List Byte) :
    PanelEvent c env u (PanelWork.transact env r code args ⟨u, false, none⟩) := by
  unfold PanelWork.transact
  split
  · exact .rephased running .waitStart u.packet u.packetCut
  · exact .rephased running _ (linkPacket code args) false

theorem PanelEvent.of_replyTimesOut : PanelEvent c env u (PanelWork.replyTimesOut env ⟨u, false, none⟩) := by
  unfold PanelWork.replyTimesOut
  split
  · next r running =>
    split
    · exact .stepped running (PanelWork.stepError_leaves env r _ _)
    · exact .rests
  · exact .rests

theorem PanelEvent.of_waitEnds : PanelEvent c env u (PanelWork.waitEnds env ⟨u, false, none⟩) := by
  unfold PanelWork.waitEnds
  split
  · next r running =>
    split
    · exact .stepped running (PanelWork.goOn_leaves env r _)
    · exact .rests
  · exact .rests

theorem PanelEvent.of_pollReadFallsDue : PanelEvent c env u (PanelWork.pollReadFallsDue env ⟨u, false, none⟩) := by
  unfold PanelWork.pollReadFallsDue
  split
  · next r running =>
    split
    · exact .of_transact c env u running _ _
    · exact .rests
  · exact .rests

theorem PanelEvent.of_pollTimesOut : PanelEvent c env u (PanelWork.pollTimesOut env ⟨u, false, none⟩) := by
  unfold PanelWork.pollTimesOut
  split
  · next r running =>
    split
    · exact .stepped running (PanelWork.stepError_leaves env r _ _)
    · exact .stepped running (PanelWork.stepError_leaves env r _ _)
    · exact .rests
  · exact .rests

/-- A reply that is judged ends the step, or leaves a POLL to read again (R162 to R165). -/
theorem PanelEvent.of_judgeReply {r : Run} (running : u.run = some r) (reply : LinkReply) :
    PanelEvent c env u (PanelWork.judgeReply env r reply ⟨u, false, none⟩) := by
  have go := PanelWork.goOn_leaves env r ⟨u, false, none⟩
  have err := fun e => PanelWork.stepError_leaves env r e ⟨u, false, none⟩
  unfold PanelWork.judgeReply
  split <;> [skip; skip; split <;> [skip; split]; split <;> [skip; split <;> [skip; split]]; skip]
  case h_4.isFalse.isFalse.isFalse => exact .rephased running (.pollGap _) u.packet u.packetCut
  case h_2 => exact .stepped running go
  case h_3.isFalse.isTrue => exact .stepped running go
  case h_4.isFalse.isTrue => exact .stepped running go
  all_goals exact .stepped running (err _)

theorem PanelEvent.of_linkPacketArrives (packet : List Byte) :
    PanelEvent c env u (PanelWork.linkPacketArrives env packet ⟨u, false, none⟩) := by
  unfold PanelWork.linkPacketArrives
  split
  · next r running =>
    split
    · exact .of_judgeReply c env u running _
    · exact .rests
  · exact .rests

theorem PanelEvent.of_blankingOpens : PanelEvent c env u (PanelWork.blankingOpens env ⟨u, false, none⟩) := by
  unfold PanelWork.blankingOpens
  split
  · next r running =>
    split
    case h_4 => exact .rests
    all_goals exact .rephased running _ _ false
  · exact .rests

theorem PanelEvent.of_lingerExpires {t : Nat} (due : u.lingerDue = some t) :
    PanelEvent c env u (PanelWork.lingerExpires env ⟨u, false, none⟩) := by
  unfold PanelUnit.lingerDue at due
  split at due
  case h_1 timer => exact .lingerExpired timer
  case h_2 => nomatch due

end

/-! ## What a step does to a panel -/

/-- What a command or event makes of panel X: nothing; a line level; a panel event and the runs it asks for, at a moment of
the step; the delivery of its pair; a frame begun or abandoned; a reset. -/
inductive State.PanelStep (c : Instr) (x : Panel) (s t : State) : Prop
  | stands (panel : t.panel x = s.panel x) (need : t.posture.need x = s.posture.need x)
  | lineSet (asserted : Bool) (panel : t.panel x = { s.panel x with attentionLine := asserted })
      (need : t.posture.need x = s.posture.need x)
  | worked (line : Bool) (n : Nat) (later : s.now ≤ n) (before : n ≤ t.now) (frame : t.frame = s.frame)
      (need : t.posture.need x = s.posture.need x) {w : PanelWork}
      (event : PanelEvent c (({ s with now := n } : State).panelEnv x) { s.panel x with attentionLine := line } w)
      (panel : t.panel x = (w.settle (({ s with now := n } : State).panelEnv x) 8).unit)
  | delivered (n : Nat) (later : s.now ≤ n) (before : n ≤ t.now) (frame : t.frame = s.frame)
      (panel : t.panel x = (({ s with now := n } : State).eventWork x (s.posture.need x).delivered
        (t.posture.need x).delivered).unit)
  | began (command : c = .outputFrameStart) (panel : t.panel x = (s.panel x).blankingEnds.beginFrame)
      (need : t.posture.need x = s.posture.need x)
  | abandoned (command : ∃ b, c = .timingSet b) (quiet : (s.panel x).state.quiet = true)
      (panel : t.panel x = (s.panel x).abandonFrame) (need : t.posture.need x = s.posture.need x)
  | reset (command : isReset c) (panel : t.panel x = (s.panel x).afterReset s.now)
      (posture : t.posture.need x = PanelNeed.reset)

section
variable {c : Instr} {x y : Panel} {s t : State}

theorem State.PanelStep.of_same (panel : t.panel x = s.panel x) (posture : t.posture = s.posture) : s.PanelStep c x t :=
  .stands panel (by rw [posture])

/-- An event at panel Y, at a moment not before this one: a panel event of Y, and nothing of the other panel. -/
theorem State.panelStep_onPanel (n : Nat) (later : s.now ≤ n) (line : Bool)
    {work : PanelEnv → PanelWork → PanelWork}
    (event : ∀ env, PanelEvent c env { s.panel y with attentionLine := line }
      (work env ⟨{ s.panel y with attentionLine := line }, false, none⟩)) :
    s.PanelStep c x ((({ s with now := n } : State).setPanel y { s.panel y with attentionLine := line }).onPanel y work) := by
  obtain ⟨frame, other⟩ := State.onPanel_frame y work
    (({ s with now := n } : State).setPanel y { s.panel y with attentionLine := line })
  have panel := State.onPanel_panel y work (({ s with now := n } : State).setPanel y { s.panel y with attentionLine := line })
  generalize State.onPanel y work _ = t at *
  by_cases same : x = y
  · subst same
    have env : (({ s with now := n } : State).setPanel x { s.panel x with attentionLine := line }).panelEnv x =
        ({ s with now := n } : State).panelEnv x := by cases x <;> rfl
    rw [env, State.panel_setPanel] at panel
    exact .worked line n later (by rw [frame, State.setPanel_now]) (by rw [frame, State.setPanel_frame])
      (by rw [frame, State.setPanel_posture]) (event _) panel
  · refine .stands ?_ (by rw [frame, State.setPanel_posture])
    have is : x = otherPanel y := by cases x <;> cases y <;> first | rfl | exact absurd rfl same
    rw [is, other, State.panel_setPanel_of_ne (by cases y <;> simp [otherPanel])]
    cases y <;> rfl

theorem State.panelStep_onPanel_kept (n : Nat) (later : s.now ≤ n) {work : PanelEnv → PanelWork → PanelWork}
    (event : ∀ env, PanelEvent c env (s.panel y) (work env ⟨s.panel y, false, none⟩)) :
    s.PanelStep c x (({ s with now := n } : State).onPanel y work) := by
  have step := State.panelStep_onPanel (c := c) (x := x) n later (s.panel y).attentionLine event
  have kept : ({ s with now := n } : State).setPanel y { s.panel y with attentionLine := (s.panel y).attentionLine } =
      { s with now := n } := by cases y <;> rfl
  rwa [kept] at step

/-- A timed event of panel Y. -/
theorem State.panelStep_onPanelDue {due : Option Nat} {work : PanelEnv → PanelWork → PanelWork}
    (event : ∀ n, due = some n → ∀ env, PanelEvent c env (s.panel y) (work env ⟨s.panel y, false, none⟩)) :
    s.PanelStep c x (s.onPanelDue y due work) := by
  cases due with
  | none => exact .of_same rfl rfl
  | some n => exact State.panelStep_onPanel_kept (max s.now n) (le_max_left ..) (event n rfl)

theorem State.onEvent_panelStep {work : State → State} (h : s.onEvent work = .next t)
    (step : s.inReset = false → s.PanelStep c x (work s)) : s.PanelStep c x t := by
  obtain ⟨-, rfl⟩ | ⟨running, rfl⟩ := State.onEvent_next h
  · exact .of_same rfl rfl
  · exact step running

theorem State.onCommand_panelStep {work : State → State × Reply} (h : s.onCommand work = .next t)
    (step : s.PanelStep c x ((work s).1.hold (work s).2)) : s.PanelStep c x t := by
  obtain ⟨-, rfl⟩ | ⟨-, rfl⟩ := State.onCommand_next h
  · exact .of_same (by cases x <;> rfl) rfl
  · exact step

/-- What follows a panel's step without touching the panel. -/
theorem State.PanelStep.carry {t' : State} (step : s.PanelStep c x t) (panel : t'.panel x = t.panel x)
    (posture : t'.posture = t.posture) (frame' : t'.frame = t.frame) (now : t.now ≤ t'.now) : s.PanelStep c x t' := by
  cases step with
  | stands same need => exact .stands (panel.trans same) (by rw [posture, need])
  | lineSet asserted same need => exact .lineSet asserted (panel.trans same) (by rw [posture, need])
  | worked line n later before frame need event same =>
    exact .worked line n later (before.trans now) (frame'.trans frame) (by rw [posture, need]) event (panel.trans same)
  | delivered n later before frame same =>
    exact .delivered n later (before.trans now) (frame'.trans frame) (by rw [panel, posture, same])
  | began command same need => exact .began command (panel.trans same) (by rw [posture, need])
  | abandoned command quiet same need => exact .abandoned command quiet (panel.trans same) (by rw [posture, need])
  | reset command same need => exact .reset command (panel.trans same) (by rw [posture, need])

theorem State.PanelStep.hold (step : s.PanelStep c x t) (r : Reply) : s.PanelStep c x (t.hold r) :=
  step.carry (State.hold_panel r t x) (State.hold_posture r t) (State.hold_frame r t) le_rfl

theorem State.PanelStep.raiseIf (step : s.PanelStep c x t) (b : Bool) (g : Flag) : s.PanelStep c x (t.raiseIf b g) :=
  step.carry (State.raiseIf_panel b g t x) (State.raiseIf_posture b g t) (State.raiseIf_frame b g t)
    (State.raiseIf_now b g t).ge

/-! ### The Posture Unit delivers its pairs -/

theorem State.eventWork_congr {s' : State} (panel : s'.panel x = s.panel x) (env : s'.panelEnv x = s.panelEnv x)
    (last pair : Want) : s'.eventWork x last pair = s.eventWork x last pair := by
  unfold State.eventWork
  rw [panel, env]

theorem State.panelStep_setPosture {v : PostureUnit} (kept : ∀ y, (v.need y).delivered = (s.posture.need y).delivered) :
    s.PanelStep c x (s.setPosture v.evaluatePreDemands) := by
  have panel : (s.setPosture v.evaluatePreDemands).panel x =
      (s.eventWork x (v.evaluatePreDemands.need x).delivered (v.evaluatePreDemands.need x).pair).unit :=
    (State.setPosture_work v.evaluatePreDemands s).1 x
  have frame := State.setPosture_frame v.evaluatePreDemands s
  have delivered : ((s.setPosture v.evaluatePreDemands).posture.need x).delivered =
      (v.evaluatePreDemands.need x).pair := by
    rw [State.setPosture_posture]
    cases x <;> rfl
  have before : (v.evaluatePreDemands.need x).delivered = (s.posture.need x).delivered := by
    rw [← kept]
    cases x <;> rfl
  refine .delivered s.now le_rfl (by rw [frame]) (by rw [frame]) ?_
  rw [panel, delivered, before]

theorem PostureUnit.SetBy.delivered {u v : PostureUnit} (by_ : u.SetBy c v) (y : Panel) :
    (v.need y).delivered = (u.need y).delivered := by
  cases by_ with
  | profile p q command => exact ((u.withProfile_frame p q).2 y).1
  | _ => cases y <;> rfl

/-- A completed sample delivers the pairs that its posture work leaves. -/
theorem State.panelStep_completeSample (n : Nat) (later : s.now ≤ n) (sm : Sample) :
    s.PanelStep c x (({ s with now := n } : State).completeSample sm) := by
  obtain ⟨⟨-, needs, -⟩, -⟩ := State.completeSample_completes sm ({ s with now := n } : State)
  obtain ⟨-, delivered, panel⟩ := needs x
  have frame := State.completeSample_frame sm ({ s with now := n } : State)
  refine .delivered n later (by rw [frame]) (by rw [frame]) ?_
  rw [panel, State.delivered, ← delivered, State.raiseIf_posture, State.raiseIf_posture]
  congr 1
  refine State.eventWork_congr ?_ ?_ _ _
  · rw [State.raiseIf_panel, State.raiseIf_panel]
    cases x <;> rfl
  · simp only [State.panelEnv, State.nextRow, State.raiseIf_now, State.raiseIf_frame, State.raiseIf_lingerTime,
      State.raiseIf_scripts]

theorem State.ReadsEnd.panelStep (ends : s.ReadsEnd t) : s.PanelStep c x t := by
  cases ends with
  | waits n later o => exact .of_same (by cases x <;> rfl) rfl
  | completes n later sm => exact State.panelStep_completeSample n later sm

/-! ### Commands and events, one by one -/

theorem State.closed_panelStep {work : State → State × Reply} (h : s.onCommand work = .next t)
    (closed : s.portOpen = false) : s.PanelStep c x t := by
  rw [State.onCommand_closed closed] at h
  cases h
  exact .of_same (by cases x <;> rfl) rfl

theorem State.panelStep_refused (r : Reply) : s.PanelStep c x (s.hold r) :=
  (State.PanelStep.of_same rfl rfl).hold r

theorem execZonesWrite_panelStep {b1 b2 b3 b4 b5 : Half} (h : execZonesWrite b1 b2 b3 b4 b5 s = .next t) :
    s.PanelStep c x t := by
  cases opened : s.portOpen
  · exact State.closed_panelStep h opened
  rw [execZonesWrite_open opened] at h
  split at h
  · cases h
    exact .stands (by cases x <;> rfl) (by cases x <;> rfl)
  · cases h
    exact State.panelStep_refused _

theorem execPostureConfig_panelStep {hy d m : Half} (h : execPostureConfig hy d m s = .next t) : s.PanelStep c x t := by
  cases opened : s.portOpen
  · exact State.closed_panelStep h opened
  rw [execPostureConfig_open opened] at h
  cases h
  exact (State.panelStep_setPosture fun y => by cases y <;> rfl).hold _

theorem execProfileWrite_panelStep {b : Byte} {f : RawProfile} (h : execProfileWrite b f s = .next t) :
    s.PanelStep c x t := by
  cases opened : s.portOpen
  · exact State.closed_panelStep h opened
  cases posture : postureOfByte b with
  | none =>
    rw [execProfileWrite_range opened (.inl posture)] at h
    cases h
    exact State.panelStep_refused _
  | some p =>
    cases profile : profileOf f with
    | none =>
      rw [execProfileWrite_range opened (.inr profile)] at h
      cases h
      exact State.panelStep_refused _
    | some q =>
      rw [execProfileWrite_done opened posture profile] at h
      cases h
      exact (State.panelStep_setPosture fun y => ((s.posture.withProfile_frame p q).2 y).1).hold _

theorem execTrackModeTrack_panelStep (h : execTrackModeTrack s = .next t) : s.PanelStep c x t := by
  cases opened : s.portOpen
  · exact State.closed_panelStep h opened
  rw [execTrackModeTrack_open opened] at h
  cases h
  exact (State.panelStep_setPosture fun y => by cases y <;> rfl).hold _

theorem execTrackModeHold_panelStep (h : execTrackModeHold s = .next t) : s.PanelStep c x t := by
  cases opened : s.portOpen
  · exact State.closed_panelStep h opened
  rw [execTrackModeHold_open opened] at h
  cases h
  exact (State.panelStep_setPosture fun y => by cases y <;> rfl).hold _

theorem execTrackModeForce_panelStep {b : Byte} (h : execTrackModeForce b s = .next t) : s.PanelStep c x t := by
  cases opened : s.portOpen
  · exact State.closed_panelStep h opened
  cases names : postureOfByte b with
  | none =>
    rw [execTrackModeForce_range opened (postureOfByte_eq_none.1 names)] at h
    cases h
    exact State.panelStep_refused _
  | some p =>
    rw [execTrackModeForce_done opened names] at h
    cases h
    exact ((State.panelStep_setPosture fun y => by cases y <;> rfl).raiseIf _ _).hold _

theorem execLeadSet_panelStep {b : Byte} (h : execLeadSet b s = .next t) : s.PanelStep c x t := by
  cases opened : s.portOpen
  · exact State.closed_panelStep h opened
  cases names : panelOfByte b with
  | none =>
    rw [execLeadSet_range opened (panelOfByte_eq_none.1 names)] at h
    cases h
    exact State.panelStep_refused _
  | some y =>
    by_cases same : s.posture.lead = y
    · rw [execLeadSet_same opened names same] at h
      cases h
      exact State.panelStep_refused _
    · rw [execLeadSet_other opened names same] at h
      cases h
      exact (State.panelStep_setPosture fun y => by cases y <;> rfl).hold _

theorem execSampleIntervalExpiry_panelStep (h : execSampleIntervalExpiry s = .next t) : s.PanelStep c x t :=
  State.onEvent_panelStep h fun _ => (State.readsEnd_both (s := s)).panelStep.carry (by cases x <;> rfl) rfl rfl
    (le_max_left ..)

theorem execOutputFrameStart_panelStep (h : execOutputFrameStart s = .next t) : s.PanelStep .outputFrameStart x t := by
  obtain ⟨-, rfl⟩ | ⟨-, rfl⟩ := execOutputFrameStart_next h
  · exact .of_same rfl rfl
  · exact .began rfl (s.frameStarted_panel x) (by rw [State.frameStarted_posture])

section
variable (opened : s.portOpen = true) {b : Byte}
include opened

theorem execTimingSet_range (bad : rateOfByte b = none) : execTimingSet b s = .next (s.hold ⟨.range, []⟩) := by
  simp only [execTimingSet, State.onCommand_open opened, bad]
  rfl

theorem execTimingSet_refused {r : FrameRate} (names : rateOfByte b = some r)
    (busy : (s.panelA.state.quiet && s.panelB.state.quiet) = false) : execTimingSet b s = .next (s.hold ⟨.state, []⟩) := by
  simp only [execTimingSet, State.onCommand_open opened, names, busy]
  rfl

theorem execTimingSet_done {r : FrameRate} (names : rateOfByte b = some r)
    (quiet : (s.panelA.state.quiet && s.panelB.state.quiet) = true) : execTimingSet b s =
      .next (({ s with
        frame := { s.frame with rate := r, periodStart := s.now }
        panelA := s.panelA.abandonFrame, panelB := s.panelB.abandonFrame }).hold ⟨.done, []⟩) := by
  simp only [execTimingSet, State.onCommand_open opened, names, quiet]
  rfl

end

theorem execTimingSet_panelStep {b : Byte} (h : execTimingSet b s = .next t) : s.PanelStep (.timingSet b) x t := by
  cases opened : s.portOpen
  · exact State.closed_panelStep h opened
  cases names : rateOfByte b with
  | none =>
    rw [execTimingSet_range opened names] at h
    cases h
    exact State.panelStep_refused _
  | some r =>
    cases quiet : s.panelA.state.quiet && s.panelB.state.quiet with
    | false =>
      rw [execTimingSet_refused opened names quiet] at h
      cases h
      exact State.panelStep_refused _
    | true =>
      rw [execTimingSet_done opened names quiet] at h
      cases h
      obtain ⟨quietA, quietB⟩ := Bool.and_eq_true_iff.1 quiet
      refine .abandoned ⟨b, rfl⟩ ?_ ?_ rfl
      · cases x
        · exact quietA
        · exact quietB
      · cases x <;> rfl

/-- Blanking opens for panel Y when it receives a stream (R170). -/
def State.opensBlanking (y : Panel) (s : State) : State :=
  if (s.panel y).state.streams then s.onPanel y PanelWork.blankingOpens else s

theorem State.opensBlanking_frame (y : Panel) (s : State) :
    s.opensBlanking y = { s with
      panelA := (s.opensBlanking y).panelA, panelB := (s.opensBlanking y).panelB
      port := { s.port with flags := (s.opensBlanking y).port.flags } } ∧
    (s.opensBlanking y).panel (otherPanel y) = s.panel (otherPanel y) := by
  unfold State.opensBlanking
  split
  · exact State.onPanel_frame y _ s
  · exact ⟨rfl, rfl⟩

/-- Opened blanking as a step of panel Y from a state whose panel Y it has not touched yet. -/
theorem State.panelStep_opensBlanking {n : Nat} (later : s.now ≤ n) (now : t.now = n) (panel : t.panel y = s.panel y)
    (env : t.panelEnv y = ({ s with now := n } : State).panelEnv y) (posture : t.posture = s.posture)
    (frame' : t.frame = s.frame) : s.PanelStep c y (t.opensBlanking y) := by
  have frame := (t.opensBlanking_frame y).1
  have opened : (t.opensBlanking y).panel y = if (t.panel y).state.streams
      then ((PanelWork.blankingOpens (t.panelEnv y) ⟨t.panel y, false, none⟩).settle (t.panelEnv y) 8).unit
      else t.panel y := by
    unfold State.opensBlanking
    split
    · exact State.onPanel_panel y _ t
    · rfl
  generalize t.opensBlanking y = t' at *
  split at opened
  · rw [panel, env] at opened
    exact .worked (s.panel y).attentionLine n later (by rw [frame, now]) (by rw [frame, frame']) (by rw [frame, posture])
      (.of_blankingOpens c _ _) opened
  · exact .stands (opened.trans panel) (by rw [frame, posture])

theorem execOutputFrameEnd_next (h : execOutputFrameEnd s = .next t) : (s.inReset = true ∧ t = s) ∨ (s.inReset = false ∧
    t = ((s.reach (s.frame.periodStart + s.frame.rate.active)).opensBlanking .a).opensBlanking .b) :=
  State.onEvent_next h

theorem execOutputFrameEnd_panelStep (h : execOutputFrameEnd s = .next t) : s.PanelStep c x t := by
  obtain ⟨-, rfl⟩ | ⟨-, rfl⟩ := execOutputFrameEnd_next h
  · exact .of_same rfl rfl
  generalize reached : s.reach (s.frame.periodStart + s.frame.rate.active) = r
  have later : s.now ≤ r.now := by rw [← reached]; exact le_max_left ..
  have whole : r = { s with now := r.now } := by rw [← reached]; rfl
  obtain ⟨frameA, otherA⟩ := r.opensBlanking_frame .a
  obtain ⟨frameB, otherB⟩ := (r.opensBlanking .a).opensBlanking_frame .b
  cases x with
  | a =>
    have first : s.PanelStep c .a (r.opensBlanking .a) :=
      State.panelStep_opensBlanking later rfl (by rw [whole]; rfl) (by rw [← whole]) (by rw [whole]) (by rw [whole])
    exact first.carry otherB (by rw [frameB]) (by rw [frameB]) (by rw [frameB])
  | b =>
    have env : (r.opensBlanking .a).panelEnv .b = r.panelEnv .b := by rw [frameA]; rfl
    exact State.panelStep_opensBlanking later (by rw [frameA]) (otherA.trans (by rw [whole]; rfl))
      (by rw [env, ← whole]) (by rw [frameA, whole]) (by rw [frameA, whole])

theorem State.panelStep_setAttentionLine (asserted : Bool) : s.PanelStep c x (s.setAttentionLine y asserted) := by
  by_cases same : x = y
  · subst same
    exact .lineSet asserted (State.panel_setPanel ..) (by rw [State.setAttentionLine, State.setPanel_posture])
  · exact .of_same (State.panel_setPanel_of_ne same _ _) (State.setPanel_posture ..)

theorem execAttention_panelStep (h : execAttention y s = .next t) : s.PanelStep c x t := by
  unfold execAttention at h
  split at h
  · cases h
    exact State.panelStep_setAttentionLine true
  · cases h
    exact State.panelStep_onPanel s.now le_rfl true fun env => .attended

section
variable (opened : s.portOpen = true) {b : Byte}
include opened

theorem execPanelStop_range (above : 1 < b.toNat) : execPanelStop b s = .next (s.hold ⟨.range, []⟩) := by
  simp only [execPanelStop, State.onCommand_open opened, panelOfByte_eq_none.2 above]
  rfl

theorem execPanelStop_faulted (names : panelOfByte b = some y) (fault : (s.panel y).state = .fault) :
    execPanelStop b s = .next (s.hold ⟨.done, []⟩) := by
  simp only [execPanelStop, State.onCommand_open opened, names, if_pos fault]
  rfl

theorem execPanelStop_done (names : panelOfByte b = some y) (running : (s.panel y).state ≠ .fault) :
    execPanelStop b s = .next ((s.onPanel y PanelWork.stop).hold ⟨.done, []⟩) := by
  simp only [execPanelStop, State.onCommand_open opened, names, if_neg running]
  rfl

theorem execPanelRestart_range (above : 1 < b.toNat) : execPanelRestart b s = .next (s.hold ⟨.range, []⟩) := by
  simp only [execPanelRestart, State.onCommand_open opened, panelOfByte_eq_none.2 above]
  rfl

theorem execPanelRestart_refused (names : panelOfByte b = some y) (running : (s.panel y).state ≠ .fault) :
    execPanelRestart b s = .next (s.hold ⟨.state, []⟩) := by
  simp only [execPanelRestart, State.onCommand_open opened, names, if_neg running]
  rfl

theorem execPanelRestart_done (names : panelOfByte b = some y) (fault : (s.panel y).state = .fault) :
    execPanelRestart b s = .next ((s.onPanel y PanelWork.restart).hold
      ⟨if (s.panel y).wantedIn && (s.scripts.slots y).wake.isSome then .started else .done, []⟩) := by
  simp only [execPanelRestart, State.onCommand_open opened, names, if_pos fault]
  rfl

theorem execPanelCheck_range (above : 1 < b.toNat) : execPanelCheck b s = .next (s.hold ⟨.range, []⟩) := by
  simp only [execPanelCheck, State.onCommand_open opened, panelOfByte_eq_none.2 above]
  rfl

theorem execPanelCheck_refused (names : panelOfByte b = some y) (dark : (s.panel y).state.streams = false) :
    execPanelCheck b s = .next (s.hold ⟨.state, []⟩) := by
  simp only [execPanelCheck, State.onCommand_open opened, names, dark]
  rfl

theorem execPanelCheck_busy (names : panelOfByte b = some y) (streams : (s.panel y).state.streams = true)
    (running : (s.panel y).run.isSome = true) : execPanelCheck b s = .next (s.hold ⟨.busy, []⟩) := by
  simp only [execPanelCheck, State.onCommand_open opened, names, streams, running]
  rfl

theorem execPanelCheck_done (names : panelOfByte b = some y) (streams : (s.panel y).state.streams = true)
    (idle : (s.panel y).run = none) : execPanelCheck b s = .next ((s.onPanel y PanelWork.askCheck).hold
      ⟨if (s.scripts.slots y).check.isSome then .started else .done, []⟩) := by
  simp only [execPanelCheck, State.onCommand_open opened, names, streams, idle]
  rfl

end

theorem execPanelStop_panelStep {b : Byte} (h : execPanelStop b s = .next t) : s.PanelStep c x t := by
  cases opened : s.portOpen
  · exact State.closed_panelStep h opened
  cases names : panelOfByte b with
  | none =>
    rw [execPanelStop_range opened (panelOfByte_eq_none.1 names)] at h
    cases h
    exact State.panelStep_refused _
  | some y =>
    by_cases fault : (s.panel y).state = .fault
    · rw [execPanelStop_faulted opened names fault] at h
      cases h
      exact State.panelStep_refused _
    · rw [execPanelStop_done opened names fault] at h
      cases h
      exact (State.panelStep_onPanel_kept s.now le_rfl fun env => .stopped fault).hold _

theorem execPanelRestart_panelStep {b : Byte} (h : execPanelRestart b s = .next t) :
    s.PanelStep (.panelRestart b) x t := by
  cases opened : s.portOpen
  · exact State.closed_panelStep h opened
  cases names : panelOfByte b with
  | none =>
    rw [execPanelRestart_range opened (panelOfByte_eq_none.1 names)] at h
    cases h
    exact State.panelStep_refused _
  | some y =>
    by_cases fault : (s.panel y).state = .fault
    · rw [execPanelRestart_done opened names fault] at h
      cases h
      exact (State.panelStep_onPanel_kept s.now le_rfl fun env => .restarted ⟨b, rfl⟩ fault).hold _
    · rw [execPanelRestart_refused opened names fault] at h
      cases h
      exact State.panelStep_refused _

theorem execPanelCheck_panelStep {b : Byte} (h : execPanelCheck b s = .next t) : s.PanelStep c x t := by
  cases opened : s.portOpen
  · exact State.closed_panelStep h opened
  cases names : panelOfByte b with
  | none =>
    rw [execPanelCheck_range opened (panelOfByte_eq_none.1 names)] at h
    cases h
    exact State.panelStep_refused _
  | some y =>
    cases streams : (s.panel y).state.streams with
    | false =>
      rw [execPanelCheck_refused opened names streams] at h
      cases h
      exact State.panelStep_refused _
    | true =>
      cases run : (s.panel y).run with
      | some r =>
        rw [execPanelCheck_busy opened names streams (by rw [run]; rfl)] at h
        cases h
        exact State.panelStep_refused _
      | none =>
        rw [execPanelCheck_done opened names streams run] at h
        cases h
        exact (State.panelStep_onPanel_kept s.now le_rfl fun env => .checked streams run).hold _

end

theorem exec_panelStep {c : Instr} {s t : State} (h : exec c s = .next t) (x : Panel) : s.PanelStep c x t := by
  cases c
  case postureConfig => exact execPostureConfig_panelStep h
  case profileWrite => exact execProfileWrite_panelStep h
  case trackModeTrack => exact execTrackModeTrack_panelStep h
  case trackModeHold => exact execTrackModeHold_panelStep h
  case trackModeForce => exact execTrackModeForce_panelStep h
  case leadSet => exact execLeadSet_panelStep h
  case zonesWrite => exact execZonesWrite_panelStep h
  case sensorReply =>
    exact State.onEvent_panelStep h fun _ => (State.readsEnd_endRead (s := s) s.now le_rfl).panelStep
  case sensorReadTimeout =>
    exact State.onEvent_panelStep h fun _ => (State.readsEnd_readTimesOut (s := s) s.now le_rfl).panelStep
  case sampleIntervalExpiry => exact execSampleIntervalExpiry_panelStep h
  case outputFrameStart => exact execOutputFrameStart_panelStep h
  case outputFrameEnd => exact execOutputFrameEnd_panelStep h
  case timingSet => exact execTimingSet_panelStep h
  case attention => exact execAttention_panelStep h
  case attentionLineRelease y =>
    have released : s.setAttentionLine y false = t := Host.Outcome.next.inj h
    exact released ▸ State.panelStep_setAttentionLine false
  case panelLinkReply y packet =>
    exact State.onEvent_panelStep h fun _ => State.panelStep_onPanel_kept s.now le_rfl fun env =>
      .of_linkPacketArrives _ env _ packet
  case replyTimeout =>
    exact State.onEvent_panelStep h fun _ => State.panelStep_onPanelDue fun _ _ env => .of_replyTimesOut _ env _
  case waitEnd =>
    exact State.onEvent_panelStep h fun _ => State.panelStep_onPanelDue fun _ _ env => .of_waitEnds _ env _
  case pollReadDue =>
    exact State.onEvent_panelStep h fun _ => State.panelStep_onPanelDue fun _ _ env => .of_pollReadFallsDue _ env _
  case pollTimeout =>
    exact State.onEvent_panelStep h fun _ => State.panelStep_onPanelDue fun _ _ env => .of_pollTimesOut _ env _
  case lingerExpiry =>
    exact State.onEvent_panelStep h fun _ => State.panelStep_onPanelDue fun _ due env => .of_lingerExpires _ env _ due
  case recoveryWindowClose =>
    exact State.onEvent_panelStep h fun _ => State.panelStep_onPanelDue fun _ _ env => .windowClosed
  case panelStop => exact execPanelStop_panelStep h
  case panelRestart => exact execPanelRestart_panelStep h
  case panelCheck => exact execPanelCheck_panelStep h
  case resetnRelease straps =>
    refine .stands (exec_same h (.panel x) rfl) ?_
    simp only [exec, execResetnRelease, Host.Outcome.next.injEq] at h
    subst h
    split <;> cases x <;> rfl
  case softReset =>
    obtain rfl | rfl := execSoftReset_next h
    · exact .of_same (by cases x <;> rfl) rfl
    · exact .reset (.inl rfl) (by cases x <;> rfl) (by cases x <;> rfl)
  case pinReset n =>
    obtain ⟨k, rfl | rfl⟩ := execPinReset_next h
    · exact .of_same (by cases x <;> rfl) rfl
    · exact .reset (.inr ⟨n, rfl⟩) (by cases x <;> rfl) (by cases x <;> rfl)
  all_goals exact .of_same (exec_same h (.panel x) rfl) (exec_same h .posture rfl)

end Sys2Proof.Machine
end

section
/-! PROOFS. That every step keeps the demands in force, no posture in reset, and the panels sound with the pair delivered
as their inputs (O59). -/

namespace Sys2Proof.Machine

/-! ## The demands in force (R41 to R44, R47) -/

/-- What the unit holds for panel X is what its posture, settings and report give. -/
structure PostureUnit.InForce (u : PostureUnit) (x : Panel) : Prop where
  demand : (u.need x).demand = u.demandOf x
  preDemand : (u.need x).preDemand = u.preDemandOf x
  delivered : (u.need x).delivered = (u.need x).pair

section
variable {c : Instr} {held : Bool} {h h' : Hinge} {u u' v : PostureUnit}

/-- The unit settles with the pre-demand and the pair in force, once the demand is. -/
theorem PostureUnit.settled_inForce (demand : ∀ x, (v.need x).demand = v.demandOf x) (x : Panel) : v.settled.InForce x := by
  have resolved := demand x
  cases x <;> exact ⟨resolved, rfl, rfl⟩

theorem Posture.number_injective {p q : Posture} (same : p.number = q.number) : p = q := by
  cases p <;> cases q <;> first | rfl | exact absurd same (by decide)

/-- Another posture's profile does not matter to the demand. -/
theorem PostureUnit.demandOf_withProfile {p : Posture} {q : Profile} (other : u.posture ≠ some p) (x : Panel) :
    ({ u with profiles := u.profiles.set p.number q } : PostureUnit).demandOf x = u.demandOf x := by
  cases posture : u.posture with
  | none => simp only [PostureUnit.demandOf, posture]
  | some r =>
    have apart : p.number ≠ r.number := fun same => other (posture.trans (congrArg some (Posture.number_injective same).symm))
    have apart' : p.number.val ≠ r.number.val := fun same => apart (Fin.ext same)
    have profile : ({ u with profiles := u.profiles.set p.number q } : PostureUnit).profile r = u.profile r := by
      simp [PostureUnit.profile, apart']
    rw [PostureUnit.demandOf_some posture]
    exact congrArg (fun f : Profile => (f.demand x).resolve u.lead x) profile

theorem PostureUnit.SetBy.demand (by_ : u.SetBy c v) (inForce : ∀ x, (u.need x).demand = u.demandOf x) (x : Panel) :
    (v.need x).demand = v.demandOf x := by
  have before := inForce x
  cases by_ with
  | configured => cases x <;> exact before
  | profile p q =>
    unfold PostureUnit.withProfile
    split
    · exact PostureUnit.resolveDemands_demand _ x
    · next other =>
      rw [PostureUnit.demandOf_withProfile other, ← before]
      cases x <;> rfl
  | tracks => cases x <;> exact before
  | holds => cases x <;> exact before
  | forced p => exact PostureUnit.resolveDemands_demand _ x
  | lead y => exact PostureUnit.resolveDemands_demand _ x

/-- With no posture nothing is demanded, whatever the lead panel. -/
theorem PostureUnit.InForce.withLead (inForce : u.InForce x) (none_ : u.posture = none) (y : Panel) :
    ({ u with lead := y } : PostureUnit).InForce x := by
  obtain ⟨demand, preDemand, delivered⟩ := inForce
  simp only [PostureUnit.demandOf, none_] at demand
  simp only [PostureUnit.preDemandOf, none_] at preDemand
  refine ⟨?_, ?_, ?_⟩
  · simp only [PostureUnit.demandOf, none_]
    cases x <;> exact demand
  · simp only [PostureUnit.preDemandOf, none_]
    cases x <;> exact preDemand
  · cases x <;> exact delivered

theorem PostureUnit.reset_inForce (leadsel : Bool) (x : Panel) : (PostureUnit.reset leadsel).InForce x := by
  cases x <;> exact ⟨rfl, rfl, rfl⟩

theorem FoldStep.keeps_inForce (step : FoldStep c held h u h' u') (inForce : ∀ x, u.InForce x)
    (resting : held = true → u.posture = none) (x : Panel) : u'.InForce x := by
  cases step with
  | stands | hingeConfigured | zeros | captureStarts | waits => exact inForce x
  | zonesWritten z =>
    obtain ⟨demand, preDemand, delivered⟩ := inForce x
    cases x <;> exact ⟨demand, preDemand, delivered⟩
  | set running v by_ => exact PostureUnit.settled_inForce (by_.demand fun y => (inForce y).demand) x
  | completes => exact PostureUnit.settled_inForce (PostureUnit.resolveDemands_demand _) x
  | released command low n y => exact (inForce x).withLead (resting low) y
  | softReset command n leadsel => exact PostureUnit.reset_inForce leadsel x
  | pinReset command leadsel => exact PostureUnit.reset_inForce leadsel x

/-- While RESETN is low no posture comes in force. -/
theorem FoldStep.keeps_resting (step : FoldStep c true h u h' u') (none_ : u.posture = none) : u'.posture = none := by
  cases step with
  | set running | completes _ running => nomatch running
  | softReset | pinReset => rfl
  | _ => exact none_

end

theorem State.ResetHeld.keeps {c : Instr} {s t : State} (held : s.ResetHeld) (h : exec c s = .next t) : t.ResetHeld := by
  intro low
  have step := exec_folds h
  unfold State.FoldsTo at step
  cases before : s.inReset with
  | true => exact (before ▸ step).keeps_resting (held before)
  | false =>
    cases c
    case pinReset n =>
      obtain ⟨k, rfl | rfl⟩ := execPinReset_next h
      · exact absurd (before.symm.trans low) (by decide)
      · rfl
    case resetnRelease straps =>
      simp only [exec, execResetnRelease, before, Host.Outcome.next.injEq] at h
      subst h
      exact absurd (before.symm.trans low) (by decide)
    all_goals exact absurd ((before.symm.trans (exec_same h .inReset rfl).symm).trans low) (by decide)

/-! ## Panels at an output frame start, a TIMING SET and a reset -/

section
variable {u : PanelUnit}

theorem PanelUnit.Sound.blankingEnds (sound : u.Sound) : u.blankingEnds.Sound := by
  unfold PanelUnit.blankingEnds
  split
  · next r running =>
    split
    · split
      · obtain ⟨ready, ofSlot⟩ := sound.ready running
        exact ready.withRun none u.resetAsserted u.powerAsserted u.packet u.packetCut u.tolerated { r with phase := _ } ofSlot
      · exact sound
    · exact sound
  · exact sound

/-- A frame begins as the panel state asks (R123, R125). -/
theorem PanelUnit.Sound.beginFrame (sound : u.Sound) : u.beginFrame.Sound := by
  obtain ⟨run, linger, fault, input, service, stream⟩ := sound
  refine ⟨run, linger, fault, input, service, ?_⟩
  unfold PanelUnit.streamSound PanelUnit.beginFrame
  cases state : u.state <;>
    simp [PanelUnit.linkContent, PanelState.frameContent]

theorem PanelUnit.Sound.abandonFrame (sound : u.Sound) (quiet : u.state.quiet = true) : u.abandonFrame.Sound := by
  obtain ⟨run, linger, fault, input, service, stream⟩ := sound
  refine ⟨run, linger, fault, input, service, ?_⟩
  have unlit : u.layersEnabled = false := by
    unfold PanelUnit.streamSound at stream
    cases state : u.state <;> simp_all [PanelState.quiet]
  unfold PanelUnit.streamSound PanelUnit.abandonFrame
  cases state : u.state <;> simp_all [PanelUnit.linkContent, PanelState.quiet]

theorem PanelUnit.afterReset_sound (now : Nat) (u : PanelUnit) : (u.afterReset now).Sound :=
  ⟨rfl, rfl, rfl, rfl, rfl, rfl⟩

end

/-! ## Panels and their inputs -/

/-- The inputs of a Panel Controller are the pair delivered to it (R131). -/
def State.InputsDelivered (s : State) (x : Panel) : Prop :=
  (s.posture.need x).delivered = ⟨(s.panel x).demandIn, (s.panel x).wantedIn⟩

theorem PanelNeed.demand_wanted {n : PanelNeed} (demand : n.pair.demand = true) : n.pair.wanted = true := by
  simp only [PanelNeed.pair, PanelNeed.wanted] at demand ⊢
  rw [demand, Bool.true_or]

/-- Every step keeps a panel sound, with the pair delivered as its inputs. -/
theorem State.PanelStep.keeps_sound {c : Instr} {x : Panel} {s t : State} (step : s.PanelStep c x t)
    (sound : (s.panel x).Sound) (inputs : s.InputsDelivered x) (inForce : t.posture.InForce x) :
    (t.panel x).Sound ∧ t.InputsDelivered x := by
  unfold State.InputsDelivered at *
  cases step with
  | stands panel need =>
    rw [panel, need]
    exact ⟨sound, inputs⟩
  | lineSet asserted panel need =>
    rw [panel, need]
    exact ⟨sound, inputs⟩
  | worked line n later before frame need event panel =>
    have lined : ({ s.panel x with attentionLine := line } : PanelUnit).Sound := sound
    have evolves := event.evolves.trans (PanelWork.settle_evolves _ _ 8)
    rw [panel, need, inputs, evolves.demandIn, evolves.wantedIn]
    exact ⟨PanelWork.settled_unit_sound _ (event.sound lined), rfl⟩
  | delivered n later before frame panel =>
    unfold State.eventWork at panel
    split at panel
    · next same =>
      have kept : ({ s with now := n } : State).panel x = s.panel x := by cases x <;> rfl
      rw [panel, kept, same]
      exact ⟨sound, inputs⟩
    · have kept : ({ s with now := n } : State).panel x = s.panel x := by cases x <;> rfl
      have evolves := (PanelWork.change_evolves (env := ({ s with now := n } : State).panelEnv x) (u := s.panel x)
        (t.posture.need x).delivered).trans (PanelWork.settle_evolves _ _ 8)
      rw [kept, PanelUnit.changed] at panel
      rw [panel, evolves.demandIn, evolves.wantedIn]
      refine ⟨PanelWork.settled_unit_sound _ (PanelWork.change_sound sound fun demand => ?_), rfl⟩
      rw [inForce.delivered] at demand ⊢
      exact PanelNeed.demand_wanted demand
  | began command panel need =>
    rw [panel, need]
    refine ⟨sound.blankingEnds.beginFrame, ?_⟩
    rw [inputs, PanelUnit.blankingEnds_frame]
    rfl
  | abandoned command quiet panel need =>
    rw [panel, need]
    exact ⟨sound.abandonFrame quiet, inputs⟩
  | reset command panel need =>
    rw [panel, need]
    exact ⟨PanelUnit.afterReset_sound s.now _, rfl⟩

/-- The invariant of O59, by panel. -/
def State.PanelsInForce (s : State) : Prop :=
  s.ResetHeld ∧ ∀ x, s.posture.InForce x ∧ (s.panel x).Sound ∧ s.InputsDelivered x

theorem State.panelsInForce_iff {s : State} :
    (s.DemandInForce .a ∧ s.DemandInForce .b ∧ s.ResetHeld ∧ s.PanelsSound) ↔ s.PanelsInForce := by
  constructor
  · rintro ⟨⟨demandA, preA, deliveredA, inputsA⟩, ⟨demandB, preB, deliveredB, inputsB⟩, held, soundA, soundB⟩
    refine ⟨held, fun x => ?_⟩
    cases x with
    | a => exact ⟨⟨demandA, preA, deliveredA⟩, soundA, inputsA⟩
    | b => exact ⟨⟨demandB, preB, deliveredB⟩, soundB, inputsB⟩
  · rintro ⟨held, each⟩
    obtain ⟨⟨demandA, preA, deliveredA⟩, soundA, inputsA⟩ := each .a
    obtain ⟨⟨demandB, preB, deliveredB⟩, soundB, inputsB⟩ := each .b
    exact ⟨⟨demandA, preA, deliveredA, inputsA⟩, ⟨demandB, preB, deliveredB, inputsB⟩, held, soundA, soundB⟩

theorem State.PanelsInForce.keeps {c : Instr} {s t : State} (sound : s.PanelsInForce) (h : exec c s = .next t) :
    t.PanelsInForce := by
  obtain ⟨held, each⟩ := sound
  have inForce := (exec_folds h).keeps_inForce (fun x => (each x).1) held
  exact ⟨held.keeps h, fun x => ⟨inForce x, (exec_panelStep h x).keeps_sound (each x).2.1 (each x).2.2 (inForce x)⟩⟩

end Sys2Proof.Machine

open Sys2Proof Sys2Proof.Machine

/-- Settles O59, by what a step does to the Posture Unit and to each panel. -/
theorem stepKeepsDemandAndPanelsSound : Obligations.StepKeepsDemandAndPanelsSound := by
  unfold Obligations.StepKeepsDemandAndPanelsSound
  simp only [State.panelsInForce_iff]
  exact fun s t sound h => step_keeps (fun s n sound => sound) (fun s q sound => sound)
    (fun c s t sound h => sound.keeps h) sound h

end

section
/-! PROOFS. Who changes what: each part of the state by its own commands and events (O54), what only a reset or its own
command undoes (O55). -/

namespace Sys2Proof.Machine

/-! ## The scripts -/

section
variable {c : Instr} {s t : State}

theorem stepsOf_cons_eq_some {r : RawStep} {rs : List RawStep} {new : List Step} : stepsOf (r :: rs) = some new ↔
    ∃ st sts, stepOf r = some st ∧ stepsOf rs = some sts ∧ new = st :: sts := by
  rw [stepsOf]
  split
  · next st sts step steps => simp [step, steps, eq_comm]
  · next none_ => exact ⟨nofun, fun ⟨st, sts, step, steps, _⟩ => absurd steps (none_ st sts step)⟩

/-- A list of raw steps names none exactly when one of them does (R156). -/
theorem stepsOf_eq_none {raw : List RawStep} : stepsOf raw = none ↔ ∃ r ∈ raw, stepOf r = none := by
  induction raw with
  | nil => simp [stepsOf]
  | cons r rs ih =>
    rw [List.exists_mem_cons_iff, ← ih, Option.eq_none_iff_forall_ne_some]
    constructor
    · intro none_
      by_contra! both
      obtain ⟨⟨st, step⟩, ⟨sts, steps⟩⟩ := both.imp Option.ne_none_iff_exists'.1 Option.ne_none_iff_exists'.1
      exact none_ _ (stepsOf_cons_eq_some.2 ⟨st, sts, step, steps, rfl⟩)
    · rintro either new some_
      obtain ⟨st, sts, step, steps, -⟩ := stepsOf_cons_eq_some.1 some_
      simp [step, steps] at either

theorem stepsOf_eq_some {raw : List RawStep} {new : List Step} (given : stepsOf raw = some new) :
    new.length = raw.length ∧ ∀ (k : Nat) (r : RawStep), raw[k]? = some r → new[k]? = stepOf r := by
  induction raw generalizing new with
  | nil =>
    cases given
    exact ⟨rfl, by simp⟩
  | cons r rs ih =>
    obtain ⟨st, sts, step, steps, rfl⟩ := stepsOf_cons_eq_some.1 given
    obtain ⟨length, each⟩ := ih steps
    refine ⟨congrArg (· + 1) length, fun k r' at_ => ?_⟩
    cases k with
    | zero =>
      cases at_
      exact step.symm
    | succ k => exact each k r' at_

/-- What SCRIPT WRITE refuses with RANGE (R156). -/
def scriptInvalid (start : Byte) (raw : List RawStep) : Prop :=
  raw = [] ∨ 4 < raw.length ∨ 256 < start.toNat + raw.length ∨ ∃ r ∈ raw, stepOf r = none

theorem scriptValid_out {start : Byte} {raw : List RawStep} {new : List Step} (valid : ¬ scriptInvalid start raw) (given : stepsOf raw = some new) :
    ¬ (new = [] ∨ 4 < new.length ∨ 256 < start.toNat + new.length) := by
  obtain ⟨length, -⟩ := stepsOf_eq_some given
  rintro (rfl | long | past)
  · exact valid (.inl (List.length_eq_zero_iff.1 length.symm))
  · exact valid (.inr (.inl (length ▸ long)))
  · exact valid (.inr (.inr (.inl (length ▸ past))))

section
variable (opened : s.portOpen = true) {start : Byte} {raw : List RawStep} {new : List Step}
include opened

theorem execScriptWrite_range (invalid : scriptInvalid start raw) :
    execScriptWrite start raw s = .next (s.hold ⟨.range, []⟩) := by
  unfold execScriptWrite
  rw [State.onCommand_open opened]
  cases given : stepsOf raw with
  | none => rfl
  | some new =>
    obtain ⟨length, -⟩ := stepsOf_eq_some given
    have out : new = [] ∨ 4 < new.length ∨ 256 < start.toNat + new.length := by
      obtain rfl | long | past | none_ := invalid
      · exact .inl (List.length_eq_zero_iff.1 length)
      · exact .inr (.inl (length ▸ long))
      · exact .inr (.inr (length ▸ past))
      · exact absurd (stepsOf_eq_none.2 none_) (by simp [given])
    simp only [if_pos out, refuse_fst, refuse_snd]

theorem execScriptWrite_busy (valid : ¬ scriptInvalid start raw) (given : stepsOf raw = some new)
    (running : s.runInFlight = true) : execScriptWrite start raw s = .next (s.hold ⟨.busy, []⟩) := by
  unfold execScriptWrite
  rw [State.onCommand_open opened]
  simp only [given, if_neg (scriptValid_out valid given), running, if_true, refuse_fst, refuse_snd]

theorem execScriptWrite_done (valid : ¬ scriptInvalid start raw) (given : stepsOf raw = some new)
    (idle : s.runInFlight = false) : execScriptWrite start raw s =
      .next (({ s with scripts := { s.scripts with steps := writeSteps start.toNat new s.scripts.steps } }).hold
        ⟨.done, []⟩) := by
  unfold execScriptWrite
  rw [State.onCommand_open opened]
  simp only [given, if_neg (scriptValid_out valid given), idle, Bool.false_eq_true, if_false, done_fst, done_snd]

end

theorem stepsOf_of_valid {start : Byte} {raw : List RawStep} (valid : ¬ scriptInvalid start raw) :
    ∃ new, stepsOf raw = some new := by
  rw [← Option.ne_none_iff_exists', Ne, stepsOf_eq_none]
  exact fun none_ => valid (.inr (.inr (.inr none_)))

section
variable (opened : s.portOpen = true) {bx bs bp bi : Byte}
include opened

theorem execSlotSet_range (invalid : 1 < bx.toNat ∨ 2 < bs.toNat ∨ 1 < bp.toNat) :
    execSlotSet bx bs bp bi s = .next (s.hold ⟨.range, []⟩) := by
  rw [← panelOfByte_eq_none, ← slotOfByte_eq_none, ← boolOfByte_eq_none] at invalid
  unfold execSlotSet
  rw [State.onCommand_open opened]
  split
  case h_1 panel slot present => simp [panel, slot, present] at invalid
  case h_2 => rfl

variable {x : Panel} {slot : ScriptSlot} {present : Bool} (panel : panelOfByte bx = some x)
  (slotted : slotOfByte bs = some slot) (presence : boolOfByte bp = some present)
include panel slotted presence

theorem execSlotSet_busy (running : s.runInFlight = true) :
    execSlotSet bx bs bp bi s = .next (s.hold ⟨.busy, []⟩) := by
  unfold execSlotSet
  rw [State.onCommand_open opened]
  simp only [panel, slotted, presence, running, if_true, refuse_fst, refuse_snd]

theorem execSlotSet_done (idle : s.runInFlight = false) : execSlotSet bx bs bp bi s =
    .next (({ s with scripts := s.scripts.setSlot x slot (if present then some (indexOfByte bi) else none) }).hold
      ⟨.done, []⟩) := by
  unfold execSlotSet
  rw [State.onCommand_open opened]
  simp only [panel, slotted, presence, idle, Bool.false_eq_true, if_false, done_fst, done_snd]

end

theorem ScriptMemory.setSlot_steps (x : Panel) (slot : ScriptSlot) (i : Option StepIndex) (m : ScriptMemory) :
    (m.setSlot x slot i).steps = m.steps := by
  cases x <;> rfl

theorem ScriptMemory.slots_of_steps (m : ScriptMemory) (steps : Vector Step 256) :
    ({ m with steps := steps } : ScriptMemory).slots = m.slots := by
  funext x
  cases x <;> rfl

theorem execScriptWrite_slots {b : Byte} {raw : List RawStep} (h : execScriptWrite b raw s = .next t) :
    t.scripts.slots = s.scripts.slots := by
  cases opened : s.portOpen
  · rw [execScriptWrite, State.onCommand_closed opened] at h
    cases h
    rfl
  by_cases valid : scriptInvalid b raw
  · rw [execScriptWrite_range opened valid] at h
    cases h
    rfl
  obtain ⟨new, given⟩ := stepsOf_of_valid valid
  cases running : s.runInFlight
  · rw [execScriptWrite_done opened valid given running] at h
    cases h
    exact ScriptMemory.slots_of_steps ..
  · rw [execScriptWrite_busy opened valid given running] at h
    cases h
    rfl

theorem execSlotSet_steps {b sl p i : Byte} (h : execSlotSet b sl p i s = .next t) :
    t.scripts.steps = s.scripts.steps := by
  cases opened : s.portOpen
  · rw [execSlotSet, State.onCommand_closed opened] at h
    cases h
    rfl
  by_cases invalid : 1 < b.toNat ∨ 2 < sl.toNat ∨ 1 < p.toNat
  · rw [execSlotSet_range opened invalid] at h
    cases h
    rfl
  rw [← panelOfByte_eq_none, ← slotOfByte_eq_none, ← boolOfByte_eq_none] at invalid
  push Not at invalid
  obtain ⟨⟨x, panel⟩, ⟨slot, slotted⟩, ⟨present, presence⟩⟩ :=
    And.imp Option.ne_none_iff_exists'.1 (And.imp Option.ne_none_iff_exists'.1 Option.ne_none_iff_exists'.1) invalid
  cases running : s.runInFlight
  · rw [execSlotSet_done opened panel slotted presence running] at h
    cases h
    exact ScriptMemory.setSlot_steps ..
  · rw [execSlotSet_busy opened panel slotted presence running] at h
    cases h
    rfl

/-- Script Memory changes by SCRIPT WRITE and its slots by SLOT SET, both by a pin reset. -/
theorem exec_scripts (h : exec c s = .next t) :
    (t.scripts.steps = s.scripts.steps ∨ (∃ a l, c = .scriptWrite a l) ∨ ∃ n, c = .pinReset n) ∧
    (t.scripts.slots = s.scripts.slots ∨ (∃ a b d e, c = .slotSet a b d e) ∨ ∃ n, c = .pinReset n) := by
  cases c
  case scriptWrite a l => exact ⟨.inr (.inl ⟨a, l, rfl⟩), .inl (execScriptWrite_slots h)⟩
  case slotSet a b d e => exact ⟨.inl (execSlotSet_steps h), .inr (.inl ⟨a, b, d, e, rfl⟩)⟩
  case pinReset n => exact ⟨.inr (.inr ⟨n, rfl⟩), .inr (.inr ⟨n, rfl⟩)⟩
  all_goals
    have same : t.scripts = s.scripts := exec_same h .scripts rfl
    exact ⟨.inl (by rw [same]), .inl (by rw [same])⟩

theorem exec_straps (h : exec c s = .next t) : t.port.straps = s.port.straps ∨ ∃ straps, c = .resetnRelease straps := by
  cases c
  case resetnRelease straps => exact .inr ⟨straps, rfl⟩
  all_goals exact .inl (exec_same h .straps rfl)

end

/-! ## The Placement Table -/

section
variable {c : Instr} {b b' : Table} (step : TableStep c b b')
include step

theorem TableStep.draft (changed : b'.draft ≠ b.draft) : isReset c ∨ (∃ f, c = .entryBind f) ∨
    (∃ h k f, c = .entrySet h k f) ∨ (∃ h, c = .entryRetire h) ∨ (∃ g, c = .tagRetire g) ∨ c = .draftRevert := by
  cases step with
  | stands | published | flipped => exact absurd rfl changed
  | captured =>
    unfold Table.bind at changed
    split at changed <;> exact absurd rfl changed
  | bound command => exact .inr (.inl ⟨_, command⟩)
  | written command => exact .inr (.inr (.inl ⟨_, _, _, command⟩))
  | retired command => exact .inr (.inr (.inr (.inl ⟨_, command⟩)))
  | tagRetired command => exact .inr (.inr (.inr (.inr (.inl ⟨_, command⟩))))
  | reverted command => exact .inr (.inr (.inr (.inr (.inr command))))
  | reset command => exact .inl command

theorem TableStep.staged (changed : b'.staged ≠ b.staged) : isReset c ∨ c = .tablePublish ∨ c = .sourceFrameStart := by
  cases step with
  | published command => exact .inr (.inl command)
  | captured command => exact .inr (.inr command)
  | reset command => exact .inl command
  | _ => exact absurd rfl changed

theorem TableStep.register (changed : b'.register ≠ b.register) : isReset c ∨ c = .tablePublish := by
  cases step with
  | published command => exact .inr command
  | reset command => exact .inl command
  | captured =>
    unfold Table.bind at changed
    split at changed <;> exact absurd rfl changed
  | _ => exact absurd rfl changed

theorem TableStep.capture (changed : b'.capture ≠ b.capture) : isReset c ∨ c = .sourceFrameStart := by
  cases step with
  | captured command => exact .inr command
  | reset command => exact .inl command
  | _ => exact absurd rfl changed

theorem TableStep.shown_changed (changed : b'.shown ≠ b.shown) :
    isReset c ∨ (c = .outputFrameStart ∧ b'.shown = b.capture) := by
  cases step with
  | flipped command => exact .inr ⟨command, rfl⟩
  | reset command => exact .inl command
  | captured =>
    unfold Table.bind at changed
    split at changed <;> exact absurd rfl changed
  | _ => exact absurd rfl changed

theorem TableStep.superseded (kept : ¬ isReset c) : b.superseded.toNat ≤ b'.superseded.toNat := by
  cases step with
  | published =>
    unfold Table.publish
    dsimp only
    split
    · exact Count.le_bump _
    · exact le_rfl
  | captured =>
    unfold Table.bind
    split <;> exact le_rfl
  | reset command => exact absurd command kept
  | _ => exact le_rfl

end

/-! ## The Frame Store -/

section
variable {c : Instr} {f f' : FrameStore}

theorem FrameStore.lineEnd_frame (n : Nat) (px : List Colour) (f : FrameStore) : f.lineEnd n px = { f with
    captureState := (f.lineEnd n px).captureState, capture := (f.lineEnd n px).capture } := by
  unfold FrameStore.lineEnd
  split <;> [split; skip] <;> rfl

theorem FrameStep.scan (step : FrameStep c f f') (changed : f'.scan ≠ f.scan) :
    isReset c ∨ (c = .outputFrameStart ∧ f.captureState = .complete) := by
  cases step with
  | shown command now =>
    unfold FrameStore.frameOut at changed
    split at changed
    case h_1 complete => exact .inr ⟨command, complete⟩
    all_goals exact absurd rfl changed
  | started =>
    unfold FrameStore.frameStart at changed
    split at changed <;> exact absurd rfl changed
  | lineEnded =>
    rw [FrameStore.lineEnd_frame] at changed
    exact absurd rfl changed
  | reset command => exact .inl command
  | _ => exact absurd rfl changed

/-- The five counters of the Frame Store, in the order of R86. -/
def FrameStore.counters (f : FrameStore) : List Count := [f.flips, f.repeats, f.dropped, f.truncated, f.malformed]

/-- No counter of the one is above that of the other. -/
def countersLe (before after : List Count) : Prop := List.Forall₂ (fun k l => k.toNat ≤ l.toNat) before after

theorem countersLe_refl (l : List Count) : countersLe l l := List.forall₂_same.2 fun _ _ => le_rfl

theorem FrameStep.counters (step : FrameStep c f f') (kept : ¬ isReset c) : countersLe f.counters f'.counters := by
  have bump := fun k : Count => Count.le_bump k
  cases step with
  | started =>
    unfold FrameStore.frameStart
    split <;> simp [countersLe, FrameStore.counters, bump]
  | lineEnded =>
    rw [FrameStore.lineEnd_frame]
    exact countersLe_refl _
  | shown =>
    unfold FrameStore.frameOut
    split <;> simp [countersLe, FrameStore.counters, FrameStore.beginPeriod, bump]
  | discarded => simp [countersLe, FrameStore.counters, bump]
  | reset command => exact absurd command kept
  | _ => exact countersLe_refl _

end

/-! ## The Hinge Unit and the posture -/

section
variable {c : Instr} {held : Bool} {h h' : Hinge} {u u' : PostureUnit}

theorem FoldStep.zero (step : FoldStep c held h u h' u')
    (changed : h'.left.zero ≠ h.left.zero ∨ h'.right.zero ≠ h.right.zero) :
    (∃ l r, c = .zeroWrite l r) ∨ endsSample c ∨ ∃ n, c = .pinReset n := by
  cases step with
  | zeros zl zr command => exact .inl ⟨zl, zr, command⟩
  | completes command => exact .inr (.inl command)
  | pinReset command => exact .inr (.inr ⟨_, command⟩)
  | _ => exact absurd changed (by rintro (left | right) <;> contradiction)

theorem FoldStep.posture (step : FoldStep c held h u h' u') (changed : u'.posture ≠ u.posture) :
    isReset c ∨ (∃ p, c = .trackModeForce p) ∨ endsSample c := by
  cases step with
  | set running v by_ =>
    cases by_ with
    | forced p command => exact .inr (.inl ⟨_, command⟩)
    | profile p q =>
      rw [(u.withProfile_frame p q).1] at changed
      exact absurd rfl changed
    | _ => exact absurd rfl changed
  | completes command => exact .inr (.inr command)
  | softReset command => exact .inl (.inl command)
  | pinReset command => exact .inl (.inr ⟨_, command⟩)
  | _ => exact absurd rfl changed

end

/-! ## What the Hinge Unit keeps (R10, R20) -/

theorem HingeWork.handleAngle_lasting (sm : Sample) (angle : Option Nat) (w : HingeWork) :
    (w.unit.angle ≠ .acquiring → (w.handleAngle sm angle).unit.angle ≠ .acquiring) ∧
    w.unit.faultEntries.toNat ≤ (w.handleAngle sm angle).unit.faultEntries.toNat := by
  cases state : w.unit.angle with
  | acquiring =>
    cases angle with
    | none =>
      rw [HingeWork.handleAngle_acquiring state]
      exact ⟨fun settled => absurd rfl settled, le_rfl⟩
    | some a =>
      rw [HingeWork.handleAngle_seeds state]
      exact ⟨fun _ => nofun, le_rfl⟩
  | tracking f =>
    cases conditions : w.unit.conditions.any with
    | true =>
      rw [HingeWork.handleAngle_faults state conditions]
      exact ⟨fun _ => nofun, Count.le_bump _⟩
    | false =>
      cases angle with
      | none =>
        rw [HingeWork.handleAngle_holds state conditions, state]
        exact ⟨fun _ => nofun, le_rfl⟩
      | some a =>
        rw [HingeWork.handleAngle_tracks state conditions]
        dsimp only
        split <;> exact ⟨fun _ => nofun, le_rfl⟩
  | faulted f g n =>
    cases angle with
    | none =>
      rw [HingeWork.handleAngle_stays_none state]
      exact ⟨fun _ => nofun, le_rfl⟩
    | some a =>
      by_cases clean : 8 ≤ w.unit.cleanCount sm n
      · rw [HingeWork.handleAngle_recovers state clean]
        exact ⟨fun _ => nofun, le_rfl⟩
      · rw [HingeWork.handleAngle_stays state (Nat.lt_of_not_le clean)]
        exact ⟨fun _ => nofun, le_rfl⟩

theorem Hinge.judgeSkew_overLimit (h : Hinge) (both : Bool) (dL dR : Int) :
    h.overLimit.toNat ≤ (h.judgeSkew both dL dR).overLimit.toNat := by
  simp only [Hinge.judgeSkew]
  split <;> [split; skip]
  · exact Count.le_bump _
  · exact le_rfl
  · exact le_rfl

theorem Hinge.measure_overLimit (straps : Straps) (sm : Sample) (h : Hinge) :
    h.overLimit.toNat ≤ (h.measure straps sm).1.overLimit.toNat := by
  unfold Hinge.measure
  split
  · next rawL rawR _ _ =>
    exact (h.recordDeltas (signedDelta straps.pola h.left.zero rawL)
      (signedDelta straps.polb h.right.zero rawR)).judgeSkew_overLimit _ _ _
  · exact le_rfl

/-- What the counters and the angle state of `h'` keep of `h` (R10, R20). -/
structure Hinge.Lasts (h h' : Hinge) : Prop where
  settled : h.angle ≠ .acquiring → h'.angle ≠ .acquiring
  missTotal : ∀ q, (h.pivot q).missTotal.toNat ≤ (h'.pivot q).missTotal.toNat
  overLimit : h.overLimit.toNat ≤ h'.overLimit.toNat
  samples : h.samples.toNat ≤ h'.samples.toNat
  faultEntries : h.faultEntries.toNat ≤ h'.faultEntries.toNat

theorem Hinge.complete_lasts (straps : Straps) (sm : Sample) (h : Hinge) : h.Lasts (h.complete straps sm).unit := by
  obtain ⟨angle, -, -, -, faults, -⟩ := h.judged_angle straps sm
  obtain ⟨angle', -, faults', -⟩ := h.complete_angle straps sm
  obtain ⟨settled, entries⟩ := (h.judged straps sm).handleAngle_lasting sm (h.angleOf straps sm)
  obtain ⟨-, samples, -⟩ := h.complete_settings straps sm
  obtain ⟨c, r, gathered⟩ := HingeWork.accumulate_unit sm ⟨h.taken sm, false, false⟩
  obtain ⟨zl, zr, p, c', r', a, n, frame⟩ := h.complete_frame straps sm
  refine ⟨fun before => ?_, fun q => ?_, ?_, ?_, ?_⟩
  · rw [angle']
    exact settled (angle ▸ before)
  · rw [(h.complete_reading straps sm q).2.2]
    cases sm.read q <;> first | exact le_rfl | exact Count.le_bump _
  · have judged : (h.complete straps sm).unit.overLimit = (h.judged straps sm).unit.overLimit := by rw [frame]
    have taken : (h.gathered sm).unit.overLimit = h.overLimit := by
      rw [Hinge.gathered, gathered]
      rfl
    rw [judged, ← taken]
    exact Hinge.measure_overLimit straps sm _
  · rw [samples]
    exact Count.le_bump _
  · rw [faults', ← faults]
    exact entries

theorem FoldStep.lasts {c : Instr} {held : Bool} {h h' : Hinge} {u u' : PostureUnit} (step : FoldStep c held h u h' u')
    (kept : ¬ isReset c) : h.Lasts h' := by
  cases step with
  | completes command running straps sm o n =>
    have lasts := h.complete_lasts straps sm
    exact ⟨lasts.settled, lasts.missTotal, lasts.overLimit, lasts.samples, lasts.faultEntries⟩
  | softReset command => exact absurd (.inl command) kept
  | pinReset command => exact absurd (.inr ⟨_, command⟩) kept
  | _ => exact ⟨id, fun q => by cases q <;> exact le_rfl, le_rfl, le_rfl, le_rfl⟩

/-! ## What a panel keeps -/

/-- In a state in which no run is asked for, the event ends with the work. -/
theorem PanelWork.settle_unit_of_none {env : PanelEnv} {w : PanelWork} (none_ : w.request = none) :
    (w.settle env 8).unit = w.unit := by rw [PanelWork.settle_none none_]

/-- What a panel in FAULT keeps until PANEL RESTART (R144, R146). -/
structure PanelUnit.StaysFaulted (u v : PanelUnit) : Prop where
  state : v.state = .fault
  record : v.faultRecord = u.faultRecord
  reset : v.resetAsserted = u.resetAsserted
  power : v.powerAsserted = u.powerAsserted

/-- A sound panel in FAULT takes no event but PANEL RESTART (R146). -/
theorem PanelEvent.stays_faulted {c : Instr} {env : PanelEnv} {u : PanelUnit} {w : PanelWork} (event : PanelEvent c env u w)
    (sound : u.Sound) (fault : u.state = .fault) (kept : ∀ b, c ≠ .panelRestart b) :
    u.StaysFaulted (w.settle env 8).unit := by
  obtain ⟨rest, run⟩ := (PanelUnit.sound_fault fault).1 sound
  cases event with
  | rests => exact ⟨fault, rfl, rfl, rfl⟩
  | attended =>
    have counted : PanelWork.attend env ⟨u, false, none⟩ =
        ⟨{ u with attentions := Count.bump u.attentions }, false, none⟩ := by
      simp only [PanelWork.attend, fault]
    rw [counted]
    exact ⟨fault, rfl, rfl, rfl⟩
  | lingerExpired timer => exact absurd (timer.symm.trans rest.linger) nofun
  | windowClosed => exact ⟨fault, rfl, rfl, rfl⟩
  | restarted command =>
    obtain ⟨b, command⟩ := command
    exact absurd command (kept b)
  | stopped running => exact absurd fault running
  | checked streams => simp [fault, PanelState.streams] at streams
  | rephased running => exact absurd (running.symm.trans run) nofun
  | stepped running => exact absurd (running.symm.trans run) nofun

theorem PanelUnit.changed_faulted {u : PanelUnit} (fault : u.state = .fault) (env : PanelEnv) (pair : Want) :
    (u.changed env pair).unit = { u with demandIn := pair.demand, wantedIn := pair.wanted } := by
  simp only [PanelUnit.changed, PanelWork.change, fault]
  exact PanelWork.settle_unit_of_none rfl

theorem State.PanelStep.stays_faulted {c : Instr} {x : Panel} {s t : State} (step : s.PanelStep c x t)
    (sound : (s.panel x).Sound) (fault : (s.panel x).state = .fault) (kept : ¬ isReset c)
    (unstarted : ∀ b, c ≠ .panelRestart b) : (s.panel x).StaysFaulted (t.panel x) := by
  have rests : (s.panel x).StaysFaulted (s.panel x) := ⟨fault, rfl, rfl, rfl⟩
  cases step with
  | stands panel => exact panel ▸ rests
  | lineSet asserted panel =>
    rw [panel]
    exact ⟨fault, rfl, rfl, rfl⟩
  | worked line n later before frame need event panel =>
    have lined : ({ s.panel x with attentionLine := line } : PanelUnit).Sound := sound
    obtain ⟨state, record, reset, power⟩ := event.stays_faulted lined fault unstarted
    rw [panel]
    exact ⟨state, record, reset, power⟩
  | delivered n later before frame panel =>
    have same : ({ s with now := n } : State).panel x = s.panel x := by cases x <;> rfl
    unfold State.eventWork at panel
    split at panel
    · exact (panel.trans same) ▸ rests
    · rw [same, PanelUnit.changed_faulted fault] at panel
      rw [panel]
      exact ⟨fault, rfl, rfl, rfl⟩
  | began command panel =>
    rw [panel, PanelUnit.blankingEnds_frame]
    exact ⟨fault, rfl, rfl, rfl⟩
  | abandoned command quiet panel =>
    rw [panel]
    exact ⟨fault, rfl, rfl, rfl⟩
  | reset command => exact absurd command kept

/-- The three counters of a panel (R150). -/
def PanelUnit.counters (u : PanelUnit) : List Count := [u.attentions, u.recoveries, u.faultEntries]

theorem PanelUnit.Evolves.counters {row : Nat} {u v : PanelUnit} (evolves : PanelUnit.Evolves row u v) :
    countersLe u.counters v.counters := by
  simp [countersLe, PanelUnit.counters, evolves.attentions, evolves.recoveries, evolves.faultEntries]

/-- The rows of the running frame, and the counters: how a step that begins or abandons no frame moves them. -/
theorem State.PanelStep.evolves {c : Instr} {x : Panel} {s t : State} (step : s.PanelStep c x t) (kept : ¬ isReset c) :
    countersLe (s.panel x).counters (t.panel x).counters ∧
    (c ≠ .outputFrameStart → (∀ b, c ≠ .timingSet b) → (t.panel x).frameRows = (s.panel x).frameRows ∨
      ∃ (row : Nat) (turns : List Segment), s.nextRow ≤ row ∧ row ≤ t.nextRow ∧
        (t.panel x).frameRows = turns ++ (s.panel x).frameRows ∧ ∀ g ∈ turns, g.fromRow = row) := by
  have nextRow {n : Nat} (later : s.now ≤ n) (before : n ≤ t.now) (frame : t.frame = s.frame) :
      s.nextRow ≤ ({ s with now := n } : State).nextRow ∧ ({ s with now := n } : State).nextRow ≤ t.nextRow := by
    have rows {m k : Nat} (le : m ≤ k) : min panelRows (((m - s.frame.periodStart) * panelRows + (s.frame.rate.active - 1)) /
        s.frame.rate.active) ≤ min panelRows (((k - s.frame.periodStart) * panelRows + (s.frame.rate.active - 1)) /
        s.frame.rate.active) :=
      min_le_min_left _ (Nat.div_le_div_right (Nat.add_le_add_right (Nat.mul_le_mul_right _ (Nat.sub_le_sub_right le _)) _))
    unfold State.nextRow
    rw [frame]
    exact ⟨rows later, rows before⟩
  cases step with
  | stands panel =>
    rw [panel]
    exact ⟨countersLe_refl _, fun _ _ => .inl rfl⟩
  | lineSet asserted panel =>
    rw [panel]
    exact ⟨countersLe_refl _, fun _ _ => .inl rfl⟩
  | worked line n later before frame need event panel =>
    have evolves := event.evolves.trans (PanelWork.settle_evolves _ _ 8)
    obtain ⟨turns, rows, from_⟩ := evolves.rows
    rw [panel]
    exact ⟨evolves.counters, fun _ _ => .inr ⟨_, turns, (nextRow later before frame).1, (nextRow later before frame).2,
      rows, from_⟩⟩
  | delivered n later before frame panel =>
    have same : ({ s with now := n } : State).panel x = s.panel x := by cases x <;> rfl
    unfold State.eventWork at panel
    split at panel
    · rw [panel, same]
      exact ⟨countersLe_refl _, fun _ _ => .inl rfl⟩
    · have evolves := (PanelWork.change_evolves (env := ({ s with now := n } : State).panelEnv x) (u := s.panel x)
        (t.posture.need x).delivered).trans (PanelWork.settle_evolves _ _ 8)
      obtain ⟨turns, rows, from_⟩ := evolves.rows
      rw [same, PanelUnit.changed] at panel
      rw [panel]
      exact ⟨evolves.counters, fun _ _ => .inr ⟨_, turns, (nextRow later before frame).1, (nextRow later before frame).2,
        rows, from_⟩⟩
  | began command panel =>
    rw [panel, PanelUnit.blankingEnds_frame]
    exact ⟨countersLe_refl _, fun other => absurd command other⟩
  | abandoned command quiet panel =>
    obtain ⟨b, command⟩ := command
    rw [panel]
    exact ⟨countersLe_refl _, fun _ other => absurd command (other b)⟩
  | reset command => exact absurd command kept

theorem Scene.stack_starvedTotal (sc : Scene) (x : Panel) (before : PanelStack) :
    before.starvedTotal.toNat ≤ (sc.stack x before).starvedTotal.toNat := by
  refine le_of_le_of_eq ?_ (Count.toNat_bumpBy _ before.starvedTotal).symm
  omega

theorem exec_starvedTotal {c : Instr} {s t : State} (h : exec c s = .next t) (kept : ¬ isReset c) (x : Panel) :
    (s.comp.stackOf x).starvedTotal.toNat ≤ (t.comp.stackOf x).starvedTotal.toNat := by
  obtain ⟨same, -⟩ | ⟨-, rfl⟩ | ⟨reset, -⟩ := exec_comp h
  · rw [same]
  · rw [State.frameStarted_comp, Composition.after_stackOf]
    exact Scene.stack_starvedTotal _ x _
  · exact absurd reset kept

theorem exec_flag_kept {c : Instr} {s t : State} (h : exec c s = .next t) (kept : ¬ isReset c) {i : Nat}
    (set : s.port.flags.getLsbD i = true) (cleared : t.port.flags.getLsbD i = false) : ∃ m, c = .notifyClear m := by
  cases c
  case notifyClear m => exact ⟨m, rfl⟩
  case softReset => exact absurd (.inl rfl) kept
  case pinReset n => exact absurd (.inr ⟨n, rfl⟩) kept
  all_goals exact absurd ((exec_same h .noFlagCleared rfl i set).symm.trans cleared) (by decide)

end Sys2Proof.Machine

open Sys2Proof Sys2Proof.Machine

/-- Settles O54, part by part from what a step does to each. -/
theorem eachPartChangesAtItsOwnEventsAlone : Obligations.EachPartChangesAtItsOwnEventsAlone := by
  intro c s t h reset sampled
  have table := exec_table h
  obtain ⟨steps, slots⟩ := exec_scripts h
  refine ⟨table.draft, table.staged, table.register, table.capture, table.shown_changed, fun changed => ?_,
    (exec_frame h).scan, fun changed => steps.resolve_left changed, fun ⟨x, changed⟩ => ?_, (exec_folds h).zero,
    fun changed => (exec_straps h).resolve_left changed, (exec_folds h).posture⟩
  · obtain ⟨same, -⟩ | ⟨command, -⟩ | ⟨command, -⟩ := exec_comp h
    · exact absurd same changed
    · exact .inr command
    · exact .inl command
  · exact slots.resolve_left fun same => changed (by rw [same])

/-- Settles O55: flags, faults, the angle state and every counter last until their own command or a reset. -/
theorem flagsFaultsAndCountersLast : Obligations.FlagsFaultsAndCountersLast := by
  intro c s t h notSoft notPin
  have kept : ¬ isReset c := by
    rintro (soft | ⟨n, pin⟩)
    · exact notSoft soft
    · exact notPin n pin
  obtain ⟨settled, missTotal, overLimit, samples, faultEntries⟩ := (exec_folds h).lasts kept
  have frame := (exec_frame h).counters kept
  simp only [countersLe, FrameStore.counters, List.forall₂_cons, List.Forall₂.nil, and_true] at frame
  obtain ⟨flips, repeats, dropped, truncated, malformed⟩ := frame
  refine ⟨fun i set cleared => exec_flag_kept h kept set cleared, fun x sound fault unstarted => ?_, settled, missTotal,
    overLimit, samples, faultEntries, (exec_table h).superseded kept, flips, repeats, dropped, truncated, malformed,
    fun x => ?_⟩
  · have sound_x : (s.panel x).Sound := by
      cases x
      · exact sound.1
      · exact sound.2
    obtain ⟨state, record, reset, power⟩ := (exec_panelStep h x).stays_faulted sound_x fault kept unstarted
    exact ⟨state, record, reset, power⟩
  · have panel := ((exec_panelStep h x).evolves kept).1
    simp only [countersLe, PanelUnit.counters, List.forall₂_cons, List.Forall₂.nil, and_true] at panel
    exact ⟨exec_starvedTotal h kept x, panel⟩

end

section
/-! PROOFS. What the panel links carry (R121 to R125), by the rows of the running frame (O41). -/

namespace Sys2Proof.Machine

/-! ## The pixel of a row -/

theorem Layer.covers_iff {l : Layer} {col row : Nat} : l.covers col row = true ↔ l.part.rect.Covers col row := by
  simp only [Layer.covers, Rect.Covers, Bool.and_eq_true, decide_eq_true_eq, and_assoc]

section
variable {scan : Bank} {p : PanelStack} {col row : Nat}

theorem viewerPixel_uncovered (bare : ∀ l ∈ p.stack, ¬ l.part.rect.Covers col row) :
    viewerPixel scan p col row = p.context.background := by
  have none_ : p.stack.find? (fun l => l.covers col row) = none :=
    List.find?_eq_none.2 fun l listed covers => bare l listed (Layer.covers_iff.1 covers)
  simp only [viewerPixel, none_]

theorem viewerPixel_topmost {above below : List Layer} {l : Layer} (stack : p.stack = above ++ l :: below)
    (covers : l.part.rect.Covers col row) (bare : ∀ k ∈ above, ¬ k.part.rect.Covers col row) :
    viewerPixel scan p col row = l.pixel scan col row := by
  have first : p.stack.find? (fun l => l.covers col row) = some l := by
    rw [stack]
    exact List.find?_eq_some_iff_append.2 ⟨Layer.covers_iff.2 covers, above, below, rfl,
      fun k listed => by
        simpa using mt Layer.covers_iff.1 (bare k listed)⟩
  simp only [viewerPixel, first]

end

section
variable {s : State} {x : Panel} {col row : Nat}

theorem State.linkPixel_outside (outside : 1200 ≤ col ∨ 1680 ≤ row) : s.linkPixel x col row = none :=
  if_pos outside

theorem State.linkPixel_inside (width : col < 1200) (height : row < 1680) : s.linkPixel x col row =
    match rowContent (s.panel x).frameRows row with
    | .off => none
    | .black => some Colour.black
    | .background => some (s.comp.stackOf x).context.background
    | .layers => some (viewerPixel s.frame.scan (s.comp.stackOf x)
        (if (s.comp.stackOf x).context.turned then 1199 - col else col)
        (if (s.comp.stackOf x).context.turned then 1679 - row else row)) := by
  have inside : ¬ (panelColumns ≤ col ∨ panelRows ≤ row) := by
    simp only [panelColumns, panelRows]
    omega
  simp only [State.linkPixel, if_neg inside]
  cases rowContent (s.panel x).frameRows row <;> [rfl; rfl; rfl; skip]
  cases (s.comp.stackOf x).context.turned <;> rfl

end

/-! ## The row of a moment (R123) -/

theorem FrameRate.active_pos (r : FrameRate) : 0 < r.active := by cases r <;> decide

theorem State.sentRow_of_blanking {s : State} (past : s.frame.rate.active ≤ s.now - s.frame.periodStart) :
    s.sentRow = none := by
  unfold State.sentRow
  exact if_neg (Nat.not_lt.2 past)

theorem State.sentRow_of_time {s : State} {row : Nat} (begun : row * s.frame.rate.active ≤ 1680 * (s.now - s.frame.periodStart))
    (running : 1680 * (s.now - s.frame.periodStart) < (row + 1) * s.frame.rate.active) (inside : row < 1680) :
    s.sentRow = some row := by
  have upTo : (row + 1) * s.frame.rate.active ≤ 1680 * s.frame.rate.active := Nat.mul_le_mul_right _ inside
  have active : s.now - s.frame.periodStart < s.frame.rate.active := by omega
  have quotient : (s.now - s.frame.periodStart) * panelRows / s.frame.rate.active = row := by
    rw [Nat.mul_comm]
    exact Nat.div_eq_of_lt_le begun running
  simp only [State.sentRow, if_pos active, quotient]

/-- The next row is the first that has not begun. -/
theorem State.lt_nextRow_iff {s : State} {row : Nat} :
    row < s.nextRow ↔ row < 1680 ∧ row * s.frame.rate.active < 1680 * (s.now - s.frame.periodStart) := by
  have pos := s.frame.rate.active_pos
  have begun : row < ((s.now - s.frame.periodStart) * panelRows + (s.frame.rate.active - 1)) / s.frame.rate.active ↔
      row * s.frame.rate.active < 1680 * (s.now - s.frame.periodStart) := by
    rw [← Nat.succ_le_iff, Nat.le_div_iff_mul_le pos, Nat.succ_mul]
    simp only [panelRows]
    omega
  rw [State.nextRow, lt_min_iff, begun]
  rfl

theorem State.nextRow_le (s : State) : s.nextRow ≤ 1680 := Nat.min_le_left ..

theorem PanelUnit.streaming_iff {u : PanelUnit} :
    u.streaming = true ↔ (u.state = .live ∨ u.state = .idle) ∧ u.linkContent ≠ .off := by
  simp [PanelUnit.streaming, PanelState.streams]

theorem State.linkPixelNow_of_silent {s : State} {x : Panel} {col : Nat} (silent : (s.panel x).streaming = false) :
    s.linkPixelNow x col = none := by
  unfold State.linkPixelNow
  split
  · simp [silent]
  · rfl

/-! ## Rows turned in the running frame (R124) -/

/-- A turn of the rows: nothing without a stream, else the rows from the next one on. -/
theorem rowsAfter_eq (next : Nat) (new : PanelState) (rows : List Segment) :
    rowsAfter next new rows = if topContent rows = .off then rows else ⟨next, new.rowsToCome⟩ :: rows := by
  cases rows with
  | nil => rfl
  | cons g rest =>
    by_cases off : g.content = .off
    · simp only [rowsAfter, topContent, off, if_true]
    · cases new <;> simp only [rowsAfter, topContent, off, if_false, PanelState.rowsToCome]

theorem rowContent_cons (g : Segment) (rows : List Segment) (row : Nat) :
    rowContent (g :: rows) row = if g.fromRow ≤ row then g.content else rowContent rows row := by
  simp only [rowContent, List.find?_cons]
  by_cases reached : g.fromRow ≤ row <;> simp [reached]

/-- Rows before the turn keep their content. -/
theorem rowContent_before_turns {turns rows : List Segment} {next row : Nat} (from_ : ∀ g ∈ turns, g.fromRow = next)
    (before : row < next) : rowContent (turns ++ rows) row = rowContent rows row := by
  induction turns with
  | nil => rfl
  | cons g turns ih =>
    have unreached : ¬ g.fromRow ≤ row := by rw [from_ g List.mem_cons_self]; omega
    rw [List.cons_append, rowContent_cons, if_neg unreached]
    exact ih fun k listed => from_ k (List.mem_cons_of_mem _ listed)

/-- Rows from the turn on carry what it turned them to, if there was one. -/
theorem rowContent_after_turns {turns rows : List Segment} {next row : Nat} (from_ : ∀ g ∈ turns, g.fromRow = next)
    (after : next ≤ row) : turns ++ rows = rows ∨ rowContent (turns ++ rows) row = topContent (turns ++ rows) := by
  cases turns with
  | nil => exact .inl rfl
  | cons g turns =>
    refine .inr ?_
    rw [List.cons_append, rowContent_cons, if_pos (by rw [from_ g List.mem_cons_self]; exact after)]
    rfl

/-! ## Entering a panel state -/

theorem PanelWork.enter_eq (env : PanelEnv) (new : PanelState) (w : PanelWork) : w.enter env new = { w with
    notify := w.notify || decide (new = .live ∨ new = .dark ∨ new = .fault)
    unit := { w.unit with
      state := new, layersEnabled := w.unit.layersEnabled && decide (w.unit.state ≠ .live)
      linger := if new = .idle then w.unit.linger else .absent
      frameRows := rowsAfter env.nextRow new w.unit.frameRows } } := by
  have announced : new.announced = decide (new = .live ∨ new = .dark ∨ new = .fault) := by cases new <;> rfl
  have layers : (if w.unit.state = .live then false else w.unit.layersEnabled) =
      (w.unit.layersEnabled && decide (w.unit.state ≠ .live)) := by
    by_cases live : w.unit.state = .live <;> simp [live]
  simp only [PanelWork.enter, announced, layers]

end Sys2Proof.Machine

open Sys2Proof Sys2Proof.Machine

/-- Settles O41: the pixel of a row by its content, the row of a moment, and how a panel state change turns the rows. -/
theorem linkCarriesTheTopmostLayer : Obligations.LinkCarriesTheTopmostLayer := by
  refine ⟨fun s x col row width height => ?_, fun s x col row outside => State.linkPixel_outside outside,
    fun s x col => ?_, fun env new w => ?_, fun env new w row => ?_, fun c s t x row h notSoft notPin notStart notTiming => ?_⟩
  · intro p content c r
    have pixel := State.linkPixel_inside (s := s) (x := x) width height
    refine ⟨fun is => ?_, fun is => ?_, fun is => ?_, fun is => ?_⟩
    · rw [pixel, show rowContent (s.panel x).frameRows row = .off from is]
    · rw [pixel, show rowContent (s.panel x).frameRows row = .black from is]
      rfl
    · rw [pixel, show rowContent (s.panel x).frameRows row = .background from is]
    · rw [pixel, show rowContent (s.panel x).frameRows row = .layers from is]
      exact ⟨fun bare => congrArg some (viewerPixel_uncovered bare),
        fun above l below stack covers bare => congrArg some (viewerPixel_topmost stack covers bare)⟩
  · refine ⟨fun past => ?_, fun silent => ?_, fun row state streams begun running inside => ?_, s.nextRow_le,
      fun row => State.lt_nextRow_iff⟩
    · unfold State.linkPixelNow
      rw [State.sentRow_of_blanking past]
    · refine State.linkPixelNow_of_silent (Bool.eq_false_iff.2 fun streaming => ?_)
      obtain ⟨state, streams⟩ := PanelUnit.streaming_iff.1 streaming
      obtain ⟨notLive, notIdle⟩ | off := silent
      · exact state.elim notLive notIdle
      · exact streams off
    · have streaming := PanelUnit.streaming_iff.2 ⟨state, streams⟩
      unfold State.linkPixelNow
      rw [State.sentRow_of_time begun running inside]
      exact if_pos streaming
  · refine ⟨_, PanelWork.enter_eq env new w, fun notLive notIdle => ?_⟩
    have ends : new.rowsToCome = .off := by
      cases new <;> first | rfl | exact absurd rfl notLive | exact absurd rfl notIdle
    rw [PanelWork.enter_linkContent, ends, ite_self]
  · intro rows
    have turned : rows = if topContent w.unit.frameRows = .off then w.unit.frameRows
        else ⟨env.nextRow, new.rowsToCome⟩ :: w.unit.frameRows := rowsAfter_eq env.nextRow new w.unit.frameRows
    refine ⟨fun off => turned.trans (if_pos off), fun streams => ?_⟩
    rw [turned, if_neg (show topContent w.unit.frameRows ≠ .off from streams), rowContent_cons]
    refine ⟨fun before => if_neg (Nat.not_le.2 before), fun after => (if_pos after).trans ?_⟩
    cases new <;> rfl
  · have kept : ¬ isReset c := by
      rintro (soft | ⟨n, pin⟩)
      · exact notSoft soft
      · exact notPin n pin
    obtain same | ⟨next, turns, fromNow, toNow, rows, from_⟩ := ((exec_panelStep h x).evolves kept).2 notStart notTiming
    · exact ⟨fun _ => by rw [same], fun _ => .inl same⟩
    · rw [PanelUnit.linkContent_eq, rows]
      exact ⟨fun before => rowContent_before_turns from_ (before.trans_le fromNow),
        fun after => rowContent_after_turns from_ (toNow.trans after)⟩

end

section
/-! PROOFS. Output frame starts, output frame ends and the frame timing (chapters 4 to 6): O34, O35. -/

namespace Sys2Proof.Machine

/-! ## An output frame start -/

theorem execOutputFrameStart_running {s : State} (running : s.inReset = false) :
    execOutputFrameStart s = .next s.frameStarted := State.onEvent_running running _

/-- The part once the banks have flipped or repeated, before the composition. -/
def State.frameFlipped (s : State) : State :=
  ({ s.reach (s.frame.periodStart + s.frame.rate.period) with
     panelA := s.panelA.blankingEnds, panelB := s.panelB.blankingEnds } : State).frameOut

section
variable (s : State)

theorem State.frameStarted_eq : s.frameStarted = s.frameFlipped.compose := rfl

theorem State.frameFlipped_comp : s.frameFlipped.comp = s.comp := by
  rw [State.frameFlipped, State.frameOut_frame]
  rfl

theorem State.frameFlipped_scene : s.frameFlipped.scene = s.frameScene := by
  rw [State.frameFlipped, State.frameOut_frame]
  simp only [State.frameScene, State.scene, PanelUnit.blankingEnds_state]
  rfl

theorem State.frameFlipped_flagged (g : Flag) : s.frameFlipped.flagged g = true ↔ s.flagged g = true ∨
    (g = .shown ∧ s.frame.captureState.isComplete = true ∧ s.table.capture.gen ≠ s.table.shown.gen) := by
  have means : (s.frame.captureState.isComplete && s.table.flipShowsNew) = true ↔
      s.frame.captureState.isComplete = true ∧ s.table.capture.gen ≠ s.table.shown.gen := by
    rw [Bool.and_eq_true, Table.flipShowsNew, decide_eq_true_eq]
  exact State.raiseIf_flagged_iff means .shown g _

theorem State.frameStarted_flagged (g : Flag) : s.frameStarted.flagged g = true ↔ s.flagged g = true ∨
    (g = .shown ∧ s.frame.captureState.isComplete = true ∧ s.table.capture.gen ≠ s.table.shown.gen) ∨
    (g = .reflow ∧ s.frameScene.joins s.comp.reflow ≠ []) ∨
    (g = .handover ∧ ∃ h, s.frameScene.handedOver s.comp.memory h = true) ∨
    (g = .layerOverflow ∧ ∃ x, (s.frameStarted.comp.stackOf x).starved ≠ []) := by
  rw [State.frameStarted_comp, State.frameStarted_eq, State.compose_flagged, State.frameFlipped_comp,
    State.frameFlipped_scene, State.frameFlipped_flagged, or_assoc]

theorem State.frameStarted_frame_rest : s.frameStarted = { s with
    now := s.frameStart, frame := s.frameStarted.frame, table := s.frameStarted.table, comp := s.frameStarted.comp
    panelA := s.frameStarted.panelA, panelB := s.frameStarted.panelB
    port := { s.port with flags := s.frameStarted.port.flags } } := by
  have composed := s.frameFlipped.compose_frame
  have flipped : s.frameFlipped = { s with
      now := s.frameStart, frame := s.frameFlipped.frame, table := s.frameFlipped.table
      panelA := s.frameFlipped.panelA, panelB := s.frameFlipped.panelB
      port := { s.port with flags := s.frameFlipped.port.flags } } := by
    rw [State.frameFlipped, State.frameOut_frame]
    rfl
  rw [← State.frameStarted_eq] at composed
  generalize s.frameStarted = t at *
  generalize s.frameFlipped = v at *
  rw [composed, flipped]

/-- The Scene that the composition reads, by the table that the flip leaves. -/
theorem State.frameScene_eq : s.frameScene = ⟨s.frameStarted.table.shown, s.posture.posture,
    s.posture.posture.map fun p => s.posture.profiles[p.number], s.panelA.state, s.panelB.state⟩ := by
  rw [State.frameStarted_table]
  rfl

theorem Scene.joins_ne_nil (sc : Scene) (list : List Handle) : sc.joins list ≠ [] ↔
    ∃ (h : Handle) (e : Entry), sc.shown.view[h] = some e ∧ (sc.resolve e).provisional = true ∧ h ∉ list := by
  constructor
  · intro some_
    obtain ⟨h, joins⟩ := List.exists_mem_of_ne_nil _ some_
    obtain ⟨provisional, new⟩ := Scene.mem_joins.1 joins
    obtain ⟨e, held, provisional⟩ := Scene.recordOf_provisional.1 provisional
    exact ⟨h, e, held, provisional, new⟩
  · rintro ⟨h, e, held, provisional, new⟩
    exact List.ne_nil_of_mem (Scene.mem_joins.2 ⟨Scene.recordOf_provisional.2 ⟨e, held, provisional⟩, new⟩)

/-- The banks and the counters after an output frame start, written out (R69, R75, R76). -/
theorem FrameStore.frameOut_beginPeriod (f : FrameStore) (start : Nat) : (f.frameOut.beginPeriod start) = { f with
    periodStart := start
    scan := if f.captureState.isComplete then f.capture else f.scan
    scanCaptured := f.captureState.isComplete || f.scanCaptured
    capture := if f.captureState.isComplete then f.scan else f.capture
    captureState := if f.captureState.isComplete then .empty else f.captureState
    flips := if f.captureState.isComplete then Count.bump f.flips else f.flips
    repeats := if f.captureState.lines?.isSome then Count.bump f.repeats else f.repeats
    frmreq := if f.captureState.lines? = none then some start else none } := by
  unfold FrameStore.frameOut FrameStore.beginPeriod
  cases state : f.captureState <;> simp [CaptureBank.isComplete, CaptureBank.isEmpty, CaptureBank.lines?, state]

end

/-! ## Blanking -/

section
variable {u : PanelUnit} {r : Run} {packetEnds : Nat} {lost : Bool}

/-- A reply still awaited on a link with a stream is lost (R170). -/
theorem PanelUnit.blankingEnds_loses (streams : u.state = .live ∨ u.state = .idle) (running : u.run = some r)
    (awaits : r.phase = .awaitReply packetEnds lost) :
    u.blankingEnds.run = some { r with phase := .awaitReply packetEnds true } := by
  have carried : u.state.streams = true := by rcases streams with state | state <;> rw [state] <;> rfl
  simp only [PanelUnit.blankingEnds, running, awaits, carried, if_true]

theorem PanelUnit.blankingEnds_keeps (rests : (u.state ≠ .live ∧ u.state ≠ .idle) ∨
    ∀ r packetEnds lost, u.run = some r → r.phase ≠ .awaitReply packetEnds lost) : u.blankingEnds.run = u.run := by
  unfold PanelUnit.blankingEnds
  split
  · next r running =>
    split
    · next packetEnds lost awaits =>
      split
      · next carried =>
        obtain ⟨notLive, notIdle⟩ | other := rests
        · simp [PanelState.streams, notLive, notIdle] at carried
        · exact absurd awaits (other r packetEnds lost running)
      · rfl
    · rfl
  · rfl

end

/-! ## An output frame end -/

/-- The run under way waits for blanking to send the packet of a SEND, READ or POLL (R169, R170). -/
def PanelEnv.waitsToSend (env : PanelEnv) (u : PanelUnit) (r : Run) (code : Byte) (args : List Byte) : Prop :=
  u.run = some r ∧ r.phase = .waitStart ∧
  (env.steps[r.index].body = .send code args ∨
    (args = [] ∧ ((∃ ps, env.steps[r.index].body = .read code ps) ∨
      ∃ ps interval timeout, env.steps[r.index].body = .poll code ps interval timeout)))

section
variable {env : PanelEnv} {u : PanelUnit} {r : Run} {code : Byte} {args : List Byte}

theorem PanelWork.blankingOpens_sends (waits : env.waitsToSend u r code args) :
    PanelWork.blankingOpens env ⟨u, false, none⟩ = PanelWork.send env r code args ⟨u, false, none⟩ := by
  obtain ⟨running, phase, body | ⟨rfl, ⟨ps, body⟩ | ⟨ps, interval, timeout, body⟩⟩⟩ := waits <;>
    simp only [PanelWork.blankingOpens, running, phase, body]

theorem PanelWork.blankingOpens_rests (rests : ∀ r code args, ¬ env.waitsToSend u r code args) :
    PanelWork.blankingOpens env ⟨u, false, none⟩ = ⟨u, false, none⟩ := by
  unfold PanelWork.blankingOpens
  split
  · next r running =>
    split
    · next phase body => exact absurd ⟨running, phase, .inl body⟩ (rests r _ _)
    · next phase body => exact absurd ⟨running, phase, .inr ⟨rfl, .inl ⟨_, body⟩⟩⟩ (rests r _ _)
    · next phase body => exact absurd ⟨running, phase, .inr ⟨rfl, .inr ⟨_, _, _, body⟩⟩⟩ (rests r _ _)
    · rfl
  · rfl

end

/-- A work that raises no flag and asks for no run is the new unit alone. -/
theorem State.onPanel_of_quiet {s : State} {x : Panel} {work : PanelEnv → PanelWork → PanelWork} {v : PanelUnit}
    (done_ : work (s.panelEnv x) ⟨s.panel x, false, none⟩ = ⟨v, false, none⟩) : s.onPanel x work = s.setPanel x v := by
  simp only [State.onPanel, done_, PanelWork.settle_none, State.raiseIf_false]

/-- What an output frame end leaves of a panel (R170). -/
def PanelUnit.afterBlankingOpens (env : PanelEnv) (u : PanelUnit) : PanelUnit :=
  if u.state.streams then (PanelWork.blankingOpens env ⟨u, false, none⟩).unit else u

theorem PanelWork.blankingOpens_quiet (env : PanelEnv) (u : PanelUnit) :
    PanelWork.blankingOpens env ⟨u, false, none⟩ = ⟨(PanelWork.blankingOpens env ⟨u, false, none⟩).unit, false, none⟩ := by
  unfold PanelWork.blankingOpens
  split
  · split <;> rfl
  · rfl

theorem State.opensBlanking_eq (y : Panel) (s : State) :
    s.opensBlanking y = s.setPanel y ((s.panel y).afterBlankingOpens (s.panelEnv y)) := by
  unfold State.opensBlanking PanelUnit.afterBlankingOpens
  split
  · exact State.onPanel_of_quiet (PanelWork.blankingOpens_quiet _ _)
  · exact (State.setPanel_panel y s).symm

theorem execOutputFrameEnd_running {s : State} (running : s.inReset = false) : execOutputFrameEnd s =
    .next { s with
      now := max s.now (s.frame.periodStart + s.frame.rate.active)
      panelA := s.panelA.afterBlankingOpens
        ((s.reach (s.frame.periodStart + s.frame.rate.active)).panelEnv .a)
      panelB := s.panelB.afterBlankingOpens
        ((s.reach (s.frame.periodStart + s.frame.rate.active)).panelEnv .b) } := by
  have ended : execOutputFrameEnd s =
      .next (((s.reach (s.frame.periodStart + s.frame.rate.active)).opensBlanking .a).opensBlanking .b) :=
    State.onEvent_running running _
  rw [ended, State.opensBlanking_eq .a, State.opensBlanking_eq .b]
  rfl

theorem PanelUnit.afterBlankingOpens_sends {env : PanelEnv} {u : PanelUnit} {r : Run} {code : Byte} {args : List Byte}
    (streams : u.state = .live ∨ u.state = .idle) (waits : env.waitsToSend u r code args) : u.afterBlankingOpens env =
      { u with
        run := some { r with phase := .awaitReply (env.now + Config.linkPacketTime (linkPacket code args)) false }
        packet := linkPacket code args, packetCut := false } := by
  have carried : u.state.streams = true := by rcases streams with state | state <;> rw [state] <;> rfl
  rw [PanelUnit.afterBlankingOpens, if_pos carried, PanelWork.blankingOpens_sends waits]
  rfl

theorem PanelUnit.afterBlankingOpens_rests {env : PanelEnv} {u : PanelUnit}
    (rests : ∀ r code args, (u.state = .live ∨ u.state = .idle) → ¬ env.waitsToSend u r code args) :
    u.afterBlankingOpens env = u := by
  unfold PanelUnit.afterBlankingOpens
  split
  · next carried =>
    rw [PanelWork.blankingOpens_rests fun r code args => rests r code args (by simpa [PanelState.streams] using carried)]
  · rfl

/-! ## The FRMREQ pulse -/

theorem execFrmreqPulseEnd_pulsing {s : State} (running : s.inReset = false) {rose : Nat} (pulse : s.frame.frmreq = some rose) :
    execFrmreqPulseEnd s =
      .next { s with now := max s.now (rose + 2), frame := { s.frame with frmreq := none } } := by
  unfold execFrmreqPulseEnd
  rw [State.onEvent_running running]
  simp only [pulse]
  rfl

theorem execFrmreqPulseEnd_resting {s : State} (running : s.inReset = false) (rests : s.frame.frmreq = none) :
    execFrmreqPulseEnd s = .next s := by
  unfold execFrmreqPulseEnd
  rw [State.onEvent_running running]
  simp only [rests]

theorem PanelState.quiet_iff {st : PanelState} : st.quiet = true ↔ st = .dark ∨ st = .fault := by
  simp [PanelState.quiet]

theorem State.panels_quiet_iff {s : State} : (s.panelA.state.quiet && s.panelB.state.quiet) = true ↔
    ∀ x, (s.panel x).state = .dark ∨ (s.panel x).state = .fault := by
  rw [Bool.and_eq_true, PanelState.quiet_iff, PanelState.quiet_iff]
  exact ⟨fun ⟨a, b⟩ x => by cases x <;> [exact a; exact b], fun each => ⟨each .a, each .b⟩⟩

end Sys2Proof.Machine

open Sys2Proof Sys2Proof.Machine

/-- Settles O34: the frame started, part by part. -/
theorem outputFrameStartFlipsOrRepeats : Obligations.OutputFrameStartFlipsOrRepeats := by
  intro s running
  refine ⟨s.frameStarted, execOutputFrameStart_running running, ?_⟩
  intro start flip sc
  have scene : s.frameScene = sc := s.frameScene_eq
  refine ⟨s.frameStarted_frame_rest, ?_, s.frameStarted_table, ?_, fun x => ?_, fun g => ?_⟩
  · exact s.frameStarted_frame.trans (FrameStore.frameOut_beginPeriod _ _)
  · rw [State.frameStarted_comp, scene]
  · have panel := s.frameStarted_panel x
    have run : (s.frameStarted.panel x).run = (s.panel x).blankingEnds.run := by rw [panel]; rfl
    refine ⟨?_, fun r packetEnds lost streams under awaits => run.trans (PanelUnit.blankingEnds_loses streams under awaits),
      fun rests => run.trans (PanelUnit.blankingEnds_keeps rests)⟩
    rw [panel, PanelUnit.blankingEnds_frame]
    rfl
  · rw [State.frameStarted_flagged, scene, Scene.joins_ne_nil]
    simp only [Scene.handedOver_iff]
    rfl

/-- Settles O35: TIMING SET, the end of a pulse, and the packets that an output frame end sends. -/
theorem outputTimingEvents : Obligations.OutputTimingEvents := by
  refine ⟨fun r => by cases r <;> exact ⟨rfl, rfl⟩, fun b s opened => ?_, fun s running => ?_⟩
  · intro quiet
    refine ⟨fun not60 not90 not120 => ?_, fun r names busy => ?_, fun r names rests => ?_, fun r => rateOfByte_eq_some⟩
    · exact execTimingSet_range opened (rateOfByte_eq_none.2 ⟨not60, not90, not120⟩)
    · exact execTimingSet_refused opened names (Bool.eq_false_iff.2 fun rests => busy (State.panels_quiet_iff.1 rests))
    · exact execTimingSet_done opened names (State.panels_quiet_iff.2 rests)
  · refine ⟨fun rose pulse => execFrmreqPulseEnd_pulsing running pulse, execFrmreqPulseEnd_resting running,
      _, execOutputFrameEnd_running running, rfl, fun x => ?_⟩
    intro u waits
    have waited (r : Run) (code : Byte) (args : List Byte) : waits r code args ↔ (u.state = .live ∨ u.state = .idle) ∧
        ((s.reach (s.frame.periodStart + s.frame.rate.active)).panelEnv x).waitsToSend u r code args := Iff.rfl
    refine ⟨fun r code args given => ?_, fun none_ => ?_⟩
    · obtain ⟨streams, given⟩ := (waited r code args).1 given
      have sends := PanelUnit.afterBlankingOpens_sends streams given
      cases x <;> exact sends
    · have rests : u.afterBlankingOpens ((s.reach (s.frame.periodStart + s.frame.rate.active)).panelEnv x) = u :=
        PanelUnit.afterBlankingOpens_rests fun r code args streams given =>
          none_ r code args ((waited r code args).2 ⟨streams, given⟩)
      cases x <;> exact rests

end

section
/-! PROOFS. Change events, completions, attentions and timers of a panel, and the runs they start (chapter 7): O42 to O47. -/

namespace Sys2Proof.Machine

/-! ## Entering a state, as a unit -/

section
variable (env : PanelEnv) (u : PanelUnit) (new : PanelState)

theorem PanelWork.enter_mk (notify : Bool) (q : Option RunRequest) :
    PanelWork.enter env new ⟨u, notify, q⟩ = ⟨u.enters env new, notify || new.announced, q⟩ := rfl

/-- Entering a state leaves all but what scanout follows, the state and the linger timer. -/
theorem PanelUnit.enters_apart : (u.enters env new).apartFromScanout =
    ({ u with state := new, linger := if new = .idle then u.linger else .absent } : PanelUnit).apartFromScanout := rfl

end

/-! ## Runs by their first step -/

section
variable {env : PanelEnv} {u : PanelUnit} {slot : ScriptSlot} {i : StepIndex} {n b : Bool}

/-- A run that waits after its start ends the event's work. -/
theorem PanelUnit.runs_of_waiting {r : Run}
    (starts : PanelWork.startRun env ⟨slot, b⟩ ⟨u, n, none⟩ = PanelWork.setRun r ⟨u, n, none⟩) :
    u.runs env slot b n = ⟨{ u with run := some r }, n, none⟩ := by
  unfold PanelUnit.runs
  rw [PanelWork.settle_some rfl]
  simp only [starts]
  exact PanelWork.settle_none rfl 7

theorem PanelUnit.runs_wait {d : Nat} (waits : env.waitsAt slot i d) : u.runs env slot b n =
    ⟨{ u with run := firstStep slot i (.waiting (env.now + 1000 * d)) env.now b }, n, none⟩ :=
  PanelUnit.runs_of_waiting (PanelWork.startRun_wait (q := ⟨slot, b⟩) waits.1 waits.2 _)

theorem PanelUnit.runs_send {code : Byte} {args : List Byte} (slotted : env.slots.get slot = some i)
    (body : env.steps[i].body = .send code args) (streams : u.state.streams = true) : u.runs env slot b n =
    ⟨{ u with run := firstStep slot i .waitStart env.now b }, n, none⟩ :=
  PanelUnit.runs_of_waiting (PanelWork.startRun_send (q := ⟨slot, b⟩) slotted body streams)

/-- A run of an absent slot is its successful completion. -/
theorem PanelUnit.runs_absent (absent : env.slots.get slot = none) : u.runs env slot b n =
    ((⟨u, n, none⟩ : PanelWork).completed env slot none).settle env 7 := by
  unfold PanelUnit.runs
  rw [PanelWork.settle_some rfl, PanelWork.startRun_absent absent]

end

/-! ## Completions, as units -/

/-- The unit without a run, as a completion finds it. -/
def PanelUnit.ended (u : PanelUnit) : PanelUnit := { u with run := none }

/-- The unit without a run and without a latched attention. -/
def PanelUnit.cleared (u : PanelUnit) : PanelUnit := { u with run := none, latched := false }

theorem PanelUnit.cleared_of_clear {u : PanelUnit} (clear : u.latched = false) : u.cleared = u.ended :=
  congrArg (fun latched => ({ u with run := none, latched := latched } : PanelUnit)) clear.symm

/-- The CHECK run that a WAKE run's completion starts for a latched attention (R134, R141). -/
def PanelUnit.servedBy (env : PanelEnv) (u : PanelUnit) : Option RunRequest :=
  if u.latched && env.slots.check.isSome then some ⟨.check, true⟩ else none

section
variable {env : PanelEnv} {u : PanelUnit} {n : Bool}

theorem PanelWork.serveLatched_streaming (streams : u.state.streams = true) :
    (PanelWork.serveLatched env ⟨u, n, none⟩).askedByCompletion =
      ⟨{ u with latched := false }, n, u.servedBy env⟩ := by
  simp only [PanelWork.serveLatched, PanelWork.askCheck, PanelUnit.servedBy, streams, Bool.and_true]
  cases u.latched <;> cases env.slots.check.isSome <;> rfl

theorem PanelWork.serveLatched_silent {q : RunRequest} (silent : u.state.streams = false) :
    (PanelWork.serveLatched env ⟨u, n, some q⟩).askedByCompletion =
      ⟨{ u with latched := false }, n, some { q with byCompletion := true }⟩ := by
  simp only [PanelWork.serveLatched, silent, Bool.and_false, Bool.false_eq_true, if_false]
  rfl

theorem PanelWork.completed_wake_live (demand : u.demandIn = true) : PanelWork.completed env .wake none ⟨u, n, none⟩ =
    ⟨u.cleared.enters env .live, true, u.servedBy env⟩ := by
  have lives : PanelWork.wakeSucceeds env ⟨u.ended, n, none⟩ =
      (PanelWork.enter env .live ⟨u.ended, n, none⟩).serveLatched env := congrArg (PanelWork.serveLatched env) (if_pos demand)
  refine (congrArg PanelWork.askedByCompletion lives).trans ?_
  rw [PanelWork.enter_mk, PanelWork.serveLatched_streaming rfl]
  exact congrArg (PanelWork.mk _ · _) (Bool.or_true n)

/-- The linger timer of a panel that a WAKE run leaves in IDLE (R134). -/
def PanelUnit.lingerFrom (env : PanelEnv) (u : PanelUnit) : Linger :=
  if u.wantedIn then .absent else .running (env.now + 1000 * env.lingerTime)

theorem PanelWork.lingerFor_timed {wanted : Bool} (timed : wanted = true ∨ env.lingerTime ≠ 0) (q : Option RunRequest) :
    PanelWork.lingerFor env wanted ⟨u, n, q⟩ = ⟨{ u with
      linger := if wanted then .absent else .running (env.now + 1000 * env.lingerTime) }, n, q⟩ := by
  cases wanted with
  | true => rfl
  | false =>
    have long : env.lingerTime ≠ 0 := timed.resolve_left (by decide)
    simp only [PanelWork.lingerFor, PanelWork.startLinger, if_neg long, ms, Nat.mul_comm]
    rfl

/-- Without a linger time an unwanted panel goes straight on, unless a run is in flight (R137). -/
theorem PanelWork.lingerFor_zero (zero : env.lingerTime = 0) (idle : u.run = none) (q : Option RunRequest) :
    PanelWork.lingerFor env false ⟨u, n, q⟩ = ⟨u.enters env .sleeping, n, some ⟨.sleep, false⟩⟩ := by
  have sleeps : PanelWork.lingerExpires env ⟨u, n, q⟩ = PanelWork.putToSleep env ⟨u, n, q⟩ := by
    simp only [PanelWork.lingerExpires, idle]
    rfl
  simp only [PanelWork.lingerFor, PanelWork.startLinger, zero, if_true, sleeps, PanelWork.putToSleep]
  rw [PanelWork.enter_mk]
  simp [PanelState.announced, PanelWork.ask]

/-- A WAKE run of a panel that is not demanded ends in IDLE first (R134). -/
theorem PanelWork.completed_wake_rests (idle : u.demandIn = false) : PanelWork.completed env .wake none ⟨u, n, none⟩ =
    ((PanelWork.lingerFor env u.wantedIn ⟨u.ended.enters env .idle, n, none⟩).serveLatched env).askedByCompletion := by
  have idles : PanelWork.wakeSucceeds env ⟨u.ended, n, none⟩ =
      ((PanelWork.enter env .idle ⟨u.ended, n, none⟩).lingerFor env u.wantedIn).serveLatched env :=
    congrArg (PanelWork.serveLatched env) (if_neg (Bool.eq_false_iff.1 idle))
  have silent : PanelWork.enter env .idle ⟨u.ended, n, none⟩ = ⟨u.ended.enters env .idle, n, none⟩ :=
    congrArg (PanelWork.mk _ · _) (Bool.or_false n)
  rw [← silent]
  exact congrArg PanelWork.askedByCompletion idles

theorem PanelWork.completed_wake_idle (idle : u.demandIn = false) (timed : u.wantedIn = true ∨ env.lingerTime ≠ 0) :
    PanelWork.completed env .wake none ⟨u, n, none⟩ =
      ⟨{ u.cleared.enters env .idle with linger := u.lingerFrom env }, n, u.servedBy env⟩ := by
  rw [PanelWork.completed_wake_rests idle, PanelWork.lingerFor_timed timed, PanelWork.serveLatched_streaming rfl]
  rfl

theorem PanelWork.completed_wake_sleeps (idle : u.demandIn = false) (unwanted : u.wantedIn = false)
    (zero : env.lingerTime = 0) : PanelWork.completed env .wake none ⟨u, n, none⟩ =
      ⟨(u.cleared.enters env .idle).enters env .sleeping, n, some ⟨.sleep, true⟩⟩ := by
  rw [PanelWork.completed_wake_rests idle, unwanted, PanelWork.lingerFor_zero zero rfl, PanelWork.serveLatched_silent rfl]
  rfl

theorem PanelWork.completed_sleep_dark (unwanted : u.wantedIn = false) : PanelWork.completed env .sleep none ⟨u, n, none⟩ =
    ⟨u.cleared.enters env .dark, true, none⟩ := by
  have kept : (PanelWork.enter env .dark ⟨u.cleared, n, none⟩).unit.wantedIn = false := unwanted
  have dark : PanelWork.sleepSucceeds env ⟨u.ended, n, none⟩ = PanelWork.enter env .dark ⟨u.cleared, n, none⟩ :=
    if_neg (Bool.eq_false_iff.1 kept)
  have done_ : PanelWork.completed env .sleep none ⟨u, n, none⟩ =
      (PanelWork.sleepSucceeds env ⟨u.ended, n, none⟩).askedByCompletion := rfl
  rw [done_, dark, PanelWork.enter_mk]
  simp [PanelWork.askedByCompletion, PanelState.announced]

theorem PanelWork.completed_sleep_wakes (wanted : u.wantedIn = true) : PanelWork.completed env .sleep none ⟨u, n, none⟩ =
    ⟨(u.cleared.enters env .dark).enters env .waking, true, some ⟨.wake, true⟩⟩ := by
  have kept : (PanelWork.enter env .dark ⟨u.cleared, n, none⟩).unit.wantedIn = true := wanted
  have wakes : PanelWork.sleepSucceeds env ⟨u.ended, n, none⟩ =
      PanelWork.wake env (PanelWork.enter env .dark ⟨u.cleared, n, none⟩) := if_pos kept
  have done_ : PanelWork.completed env .sleep none ⟨u, n, none⟩ =
      (PanelWork.sleepSucceeds env ⟨u.ended, n, none⟩).askedByCompletion := rfl
  rw [done_, wakes, PanelWork.wake, PanelWork.enter_mk, PanelWork.enter_mk]
  simp [PanelWork.askedByCompletion, PanelWork.ask, PanelState.announced]

theorem PanelWork.completed_check_rests (free : u.linger ≠ .held) : PanelWork.completed env .check none ⟨u, n, none⟩ =
    ⟨u.ended, n, none⟩ := by
  have rests : PanelWork.checkSucceeds env ⟨u.ended, n, none⟩ = ⟨u.ended, n, none⟩ := if_neg free
  exact congrArg PanelWork.askedByCompletion rests

theorem PanelWork.completed_check_sleeps (held : u.linger = .held) : PanelWork.completed env .check none ⟨u, n, none⟩ =
    ⟨u.ended.enters env .sleeping, n, some ⟨.sleep, true⟩⟩ := by
  have sleeps : PanelWork.checkSucceeds env ⟨u.ended, n, none⟩ = PanelWork.putToSleep env ⟨u.ended, n, none⟩ := if_pos held
  refine (congrArg PanelWork.askedByCompletion sleeps).trans ?_
  rw [PanelWork.putToSleep, PanelWork.enter_mk]
  simp [PanelWork.askedByCompletion, PanelWork.ask, PanelState.announced]

/-- A fault of a unit without a run (R144, R145). -/
theorem PanelUnit.faultedFrom_fault {kind : FaultKind} {step : Option (ScriptSlot × StepIndex × StepKind)}
    {error : Option StepError} {q : Option RunRequest} :
    u.FaultedFrom (PanelWork.fault env kind step error ⟨u, n, q⟩).unit ⟨kind, u.state, step, error⟩ (u.sending env.now) ∧
    (PanelWork.fault env kind step error ⟨u, n, q⟩).notify = true ∧
    (PanelWork.fault env kind step error ⟨u, n, q⟩).request = q := by
  have off : (PanelWork.enter env .fault ⟨u, n, q⟩).unit.linkContent = .off :=
    (PanelWork.enter_linkContent env .fault ⟨u, n, q⟩).trans (ite_self _)
  have layers : (if u.state = .live then false else u.layersEnabled) = (u.layersEnabled && u.state != .live) := by
    by_cases live : u.state = .live <;> simp [live]
  have entered : (PanelWork.fault env kind step error ⟨u, n, q⟩).unit = { u with
      state := .fault, run := none, linger := .absent, latched := false, resetAsserted := true, powerAsserted := false
      faultRecord := some ⟨kind, u.state, step, error⟩, faultEntries := Count.bump u.faultEntries
      layersEnabled := if u.state = .live then false else u.layersEnabled
      frameRows := (PanelWork.fault env kind step error ⟨u, n, q⟩).unit.frameRows
      packetCut := u.packetCut || u.sending env.now } := rfl
  rw [layers] at entered
  exact ⟨⟨entered, off⟩, Bool.or_true n, rfl⟩

end

/-! ## Runs of absent slots -/

section
variable {env : PanelEnv} {u : PanelUnit} {n b : Bool}

/-- An unwanted panel whose SLEEP slot is absent goes DARK at once. -/
theorem PanelUnit.runs_sleep_absent (absent : env.slots.sleep = none) (unwanted : u.wantedIn = false) :
    u.runs env .sleep b n = ⟨u.cleared.enters env .dark, true, none⟩ := by
  rw [PanelUnit.runs_absent (slot := .sleep) absent, PanelWork.completed_sleep_dark unwanted, PanelWork.settle_none rfl]

theorem PanelUnit.servedBy_of_clear (clear : u.latched = false) : u.servedBy env = none := by
  simp only [PanelUnit.servedBy, clear, Bool.false_and, Bool.false_eq_true, if_false]

/-- A demanded panel without an attention whose WAKE slot is absent goes LIVE at once. -/
theorem PanelUnit.runs_wake_absent_live (absent : env.slots.wake = none) (clear : u.latched = false)
    (demand : u.demandIn = true) : u.runs env .wake b n = ⟨u.cleared.enters env .live, true, none⟩ := by
  rw [PanelUnit.runs_absent (slot := .wake) absent, PanelWork.completed_wake_live demand,
    PanelUnit.servedBy_of_clear clear, PanelWork.settle_none rfl]

/-- One that is not demanded goes to IDLE at once, with its timer. -/
theorem PanelUnit.runs_wake_absent_idle (absent : env.slots.wake = none) (clear : u.latched = false)
    (idle : u.demandIn = false) (timed : u.wantedIn = true ∨ env.lingerTime ≠ 0) : u.runs env .wake b n =
      ⟨{ u.cleared.enters env .idle with linger := u.lingerFrom env }, n, none⟩ := by
  rw [PanelUnit.runs_absent (slot := .wake) absent, PanelWork.completed_wake_idle idle timed,
    PanelUnit.servedBy_of_clear clear, PanelWork.settle_none rfl]

end

/-! ## What an event's work keeps -/

section
variable {env : PanelEnv} {w : PanelWork}

variable (env) in
theorem PanelWork.enter_raised (raised : w.notify = true) (new : PanelState) : (w.enter env new).notify = true :=
  congrArg (· || new.announced) raised

theorem PanelWork.serveLatched_notify : (w.serveLatched env).notify = w.notify := by
  unfold PanelWork.serveLatched PanelWork.askCheck
  split <;> [split; skip] <;> rfl

theorem PanelWork.lingerFor_raised (raised : w.notify = true) (wanted : Bool) : (w.lingerFor env wanted).notify = true := by
  unfold PanelWork.lingerFor PanelWork.startLinger PanelWork.lingerExpires
  split
  · exact raised
  · split <;> [split; skip]
    · exact raised
    · exact PanelWork.enter_raised env raised .sleeping
    · exact raised

theorem PanelWork.wakeSucceeds_raised (raised : w.notify = true) : (w.wakeSucceeds env).notify = true := by
  rw [PanelWork.wakeSucceeds, PanelWork.serveLatched_notify]
  split
  · exact PanelWork.enter_raised env raised .live
  · exact PanelWork.lingerFor_raised (PanelWork.enter_raised env raised .idle) _

theorem PanelWork.sleepSucceeds_raised (raised : w.notify = true) : (w.sleepSucceeds env).notify = true := by
  have dark : (PanelWork.enter env .dark { w with unit := { w.unit with latched := false } }).notify = true :=
    PanelWork.enter_raised env (by exact raised) .dark
  simp only [PanelWork.sleepSucceeds]
  split
  · exact PanelWork.enter_raised env dark .waking
  · exact dark

theorem PanelWork.checkSucceeds_raised (raised : w.notify = true) : (w.checkSucceeds env).notify = true := by
  unfold PanelWork.checkSucceeds
  split
  · exact PanelWork.enter_raised env raised .sleeping
  · exact raised

theorem PanelWork.checkFails_raised (raised : w.notify = true) (f : StepFailure) :
    (w.checkFails env f).notify = true := by
  simp only [PanelWork.checkFails]
  split
  · exact PanelWork.enter_raised env (by exact raised) .fault
  · exact PanelWork.enter_raised env (by exact raised) .waking

/-- A flag once raised in an event stays raised through its completions and runs. -/
theorem PanelWork.completed_raised (raised : w.notify = true) (slot : ScriptSlot)
    (failure : Option StepFailure) : (w.completed env slot failure).notify = true := by
  unfold PanelWork.completed
  rw [PanelWork.askedByCompletion_notify]
  split
  · exact PanelWork.wakeSucceeds_raised (by exact raised)
  · exact PanelWork.sleepSucceeds_raised (by exact raised)
  · exact PanelWork.checkSucceeds_raised (by exact raised)
  · exact PanelWork.checkFails_raised (by exact raised) _
  · exact PanelWork.enter_raised env (by exact raised) .fault

end

theorem PanelWork.settle_raised {env : PanelEnv} (n : Nat) {w : PanelWork} (raised : w.notify = true) :
    (w.settle env n).notify = true := by
  induction n generalizing w with
  | zero => exact raised
  | succ n ih =>
    rcases asked : w.request with _ | q
    · rw [PanelWork.settle_none asked]
      exact raised
    · rw [PanelWork.settle_some asked]
      refine ih ?_
      have leaves := PanelWork.startRun_leaves env q { w with request := none }
      generalize PanelWork.startRun env q { w with request := none } = v at leaves
      cases leaves with
      | waits => exact raised
      | completes => exact PanelWork.completed_raised (by exact raised) _ _

/-! ## Change events -/

/-- The unit with the inputs of a change event (R131). -/
def PanelUnit.given (pair : Want) (u : PanelUnit) : PanelUnit := { u with demandIn := pair.demand, wantedIn := pair.wanted }

/-- The unit in IDLE, which one that was LIVE enters first (R135). -/
def PanelUnit.idled (env : PanelEnv) (u : PanelUnit) : PanelUnit := if u.state = .live then u.enters env .idle else u

section
variable {env : PanelEnv} {u : PanelUnit} {pair : Want}

theorem PanelUnit.changed_rests (rests : u.state = .waking ∨ u.state = .sleeping ∨ u.state = .fault ∨
    (u.state = .dark ∧ pair.wanted = false) ∨ (u.state = .live ∧ pair.demand = true)) :
    u.changed env pair = ⟨u.given pair, false, none⟩ := by
  have nothing : PanelWork.change env pair ⟨u, false, none⟩ = ⟨u.given pair, false, none⟩ := by
    rw [PanelWork.change_eq (v := u.given pair) rfl]
    have state : (u.given pair).state = u.state := rfl
    rcases rests with is | is | is | ⟨is, unwanted⟩ | ⟨is, demand⟩
    all_goals simp only [state, is]
    · rw [if_neg (Bool.eq_false_iff.1 unwanted)]
    · rw [if_pos demand]
  rw [PanelUnit.changed, nothing, PanelWork.settle_none rfl]

theorem PanelUnit.changed_lights (idle : u.state = .idle) (demand : pair.demand = true) :
    u.changed env pair = ⟨(u.given pair).enters env .live, true, none⟩ := by
  have lights : PanelWork.change env pair ⟨u, false, none⟩ = ⟨(u.given pair).enters env .live, true, none⟩ := by
    rw [PanelWork.change_eq (v := u.given pair) rfl]
    have state : (u.given pair).state = .idle := idle
    simp only [state]
    rw [if_pos demand, PanelWork.enter_mk]
    rfl
  rw [PanelUnit.changed, lights, PanelWork.settle_none rfl]

theorem PanelUnit.changed_idles (streams : u.state = .live ∨ u.state = .idle) (idle : pair.demand = false) :
    u.changed env pair =
      (PanelWork.lingerFor env pair.wanted ⟨(u.given pair).idled env, false, none⟩).settle env 8 := by
  have idles : PanelWork.change env pair ⟨u, false, none⟩ =
      PanelWork.lingerFor env pair.wanted ⟨(u.given pair).idled env, false, none⟩ := by
    rw [PanelWork.change_eq (v := u.given pair) rfl]
    rcases streams with is | is
    · have state : (u.given pair).state = .live := is
      simp only [state]
      rw [if_neg (Bool.eq_false_iff.1 idle), PanelWork.enter_mk, PanelUnit.idled, if_pos state]
      rfl
    · have state : (u.given pair).state = .idle := is
      simp only [state]
      rw [if_neg (Bool.eq_false_iff.1 idle), PanelUnit.idled, if_neg (by rw [state]; nofun)]
  rw [PanelUnit.changed, idles]

theorem PanelUnit.changed_wakes (dark : u.state = .dark) (wanted : pair.wanted = true) :
    u.changed env pair = ((u.given pair).enters env .waking).runs env .wake false false := by
  have wakes : PanelWork.change env pair ⟨u, false, none⟩ = PanelWork.wake env ⟨u.given pair, false, none⟩ := by
    rw [PanelWork.change_eq (v := u.given pair) rfl]
    have state : (u.given pair).state = .dark := dark
    simp only [state]
    rw [if_pos wanted]
  rw [PanelUnit.changed, wakes]
  rfl

theorem PanelUnit.idled_apart (streams : u.state = .live ∨ u.state = .idle) :
    (u.idled env).apartFromScanout = ({ u with state := .idle } : PanelUnit).apartFromScanout := by
  unfold PanelUnit.idled
  rcases streams with state | state
  · rw [if_pos state]
    rfl
  · rw [if_neg (by rw [state]; nofun), ← state]

theorem PanelUnit.idled_layers (live : u.state = .live) : (u.idled env).layersEnabled = false := by
  rw [PanelUnit.idled, if_pos live]
  exact if_pos live

theorem PanelUnit.idled_run : (u.idled env).run = u.run := by
  unfold PanelUnit.idled
  split <;> rfl

theorem PanelUnit.idled_wantedIn : (u.idled env).wantedIn = u.wantedIn := by
  unfold PanelUnit.idled
  split <;> rfl

/-- The linger timer as an unwanted or wanted pair leaves it without an expiry at once (R135, R136). -/
theorem PanelUnit.changed_lingers (streams : u.state = .live ∨ u.state = .idle) (idle : pair.demand = false)
    (timed : pair.wanted = true ∨ env.lingerTime ≠ 0) : u.changed env pair = ⟨{ (u.given pair).idled env with
      linger := if pair.wanted then .absent else .running (env.now + 1000 * env.lingerTime) }, false, none⟩ := by
  rw [PanelUnit.changed_idles streams idle, PanelWork.lingerFor_timed timed, PanelWork.settle_none rfl]

/-- With a linger time of 0 a run in flight holds the expiry. -/
theorem PanelUnit.changed_holds (streams : u.state = .live ∨ u.state = .idle) (idle : pair.demand = false)
    (unwanted : pair.wanted = false) (zero : env.lingerTime = 0) {r : Run} (running : u.run = some r) :
    u.changed env pair = ⟨{ (u.given pair).idled env with linger := .held }, false, none⟩ := by
  have flight : ((u.given pair).idled env).run.isSome = true := by
    rw [PanelUnit.idled_run]
    exact congrArg Option.isSome running
  have holds : PanelWork.lingerFor env false ⟨(u.given pair).idled env, false, none⟩ =
      ⟨{ (u.given pair).idled env with linger := .held }, false, none⟩ :=
    (if_pos zero).trans (if_pos flight)
  rw [PanelUnit.changed_idles streams idle, unwanted, holds, PanelWork.settle_none rfl]

/-- With a linger time of 0 and no run in flight the panel goes on to sleep. -/
theorem PanelUnit.changed_sleeps (streams : u.state = .live ∨ u.state = .idle) (idle : pair.demand = false)
    (unwanted : pair.wanted = false) (zero : env.lingerTime = 0) (rests : u.run = none) :
    u.changed env pair = (((u.given pair).idled env).enters env .sleeping).runs env .sleep false false := by
  have free : ((u.given pair).idled env).run = none := PanelUnit.idled_run.trans rests
  rw [PanelUnit.changed_idles streams idle, unwanted, PanelWork.lingerFor_zero zero free]
  rfl

theorem PanelUnit.changed_layers (live : u.state = .live) (idle : pair.demand = false) :
    (u.changed env pair).unit.layersEnabled = false := by
  rw [PanelUnit.changed_idles (.inl live) idle]
  have off : ((u.given pair).idled env).layersEnabled = false := PanelUnit.idled_layers live
  exact (PanelWork.settle_evolves _ _ 8).layers ((PanelWork.lingerFor_evolves _ ⟨_, false, none⟩ _).layers off)

end

end Sys2Proof.Machine

open Sys2Proof Sys2Proof.Machine

/-- Settles O42: a change event by the panel's state. -/
theorem changeEventsMoveThePanel : Obligations.ChangeEventsMoveThePanel := by
  intro env u pair v w
  have idled (streams : u.state = .live ∨ u.state = .idle) :
      ((u.given pair).idled env).apartFromScanout = ({ v with state := .idle } : PanelUnit).apartFromScanout :=
    PanelUnit.idled_apart streams
  refine ⟨PanelUnit.changed_rests, fun idle demand => ?_, fun streams unlit => ⟨PanelWork.settle_eight_request _ _,
    fun wanted => ?_, fun unwanted timed => ?_, fun unwanted zero => ⟨fun r running => ?_, fun rests absent => ?_,
      fun i d rests waits => ?_⟩, fun live => PanelUnit.changed_layers live unlit, fun unwanted zero rests =>
      ⟨fun live => ?_, fun idle => ?_⟩⟩, PanelUnit.changed_wakes, fun dark wanted clear =>
      ⟨PanelWork.settle_eight_request _ _, fun absent => ?_, fun i d waits => ?_⟩⟩
  · have lights := PanelUnit.changed_lights (env := env) idle demand
    simp only [w, lights]
    exact ⟨rfl, if_neg (by rw [show (u.given pair).state = .idle from idle]; nofun), trivial, trivial⟩
  · have lingers := PanelUnit.changed_lingers (env := env) streams unlit (.inl wanted)
    simp only [w, lingers, if_pos wanted]
    exact ⟨trivial, congrArg (fun t : PanelUnit => { t with linger := .absent }) (idled streams)⟩
  · have lingers := PanelUnit.changed_lingers (env := env) streams unlit (.inr timed)
    rw [if_neg (Bool.eq_false_iff.1 unwanted)] at lingers
    simp only [w, lingers]
    exact ⟨trivial, congrArg (fun t : PanelUnit => { t with linger := .running (env.now + 1000 * env.lingerTime) })
      (idled streams)⟩
  · have holds := PanelUnit.changed_holds streams unlit unwanted zero running
    simp only [w, holds]
    exact ⟨trivial, congrArg (fun t : PanelUnit => { t with linger := .held }) (idled streams)⟩
  · have sleeps := PanelUnit.changed_sleeps streams unlit unwanted zero rests
    have still : (((u.given pair).idled env).enters env .sleeping).wantedIn = false :=
      PanelUnit.idled_wantedIn.trans unwanted
    rw [PanelUnit.runs_sleep_absent absent still] at sleeps
    simp only [w, sleeps]
    refine ⟨trivial, (congrArg (fun t : PanelUnit =>
      { t with state := .dark, linger := .absent, latched := false, run := none }) (idled streams)).trans ?_⟩
    rw [← rests]
    rfl
  · have sleeps := PanelUnit.changed_sleeps streams unlit unwanted zero rests
    rw [PanelUnit.runs_wait waits] at sleeps
    simp only [w, sleeps]
    exact ⟨trivial, congrArg (fun t : PanelUnit => { t with
      state := .sleeping, linger := .absent
      run := firstStep .sleep i (.waiting (env.now + 1000 * d)) env.now }) (idled streams)⟩
  · have sleeps := PanelUnit.changed_sleeps streams unlit unwanted zero rests
    rwa [PanelUnit.idled, if_pos (show (u.given pair).state = .live from live)] at sleeps
  · have sleeps := PanelUnit.changed_sleeps streams unlit unwanted zero rests
    rwa [PanelUnit.idled, if_neg (by rw [show (u.given pair).state = .idle from idle]; nofun)] at sleeps
  · have wakes := PanelUnit.changed_wakes (env := env) dark wanted
    cases demand : pair.demand with
    | true =>
      rw [PanelUnit.runs_wake_absent_live (u := (u.given pair).enters env .waking) absent clear demand] at wakes
      simp only [w, wakes]
      exact ⟨trivial, rfl, rfl, rfl⟩
    | false =>
      rw [PanelUnit.runs_wake_absent_idle (u := (u.given pair).enters env .waking) absent clear demand
        (.inl wanted)] at wakes
      simp only [w, wakes]
      exact ⟨trivial, rfl, if_pos wanted, rfl⟩
  · have wakes := PanelUnit.changed_wakes (env := env) dark wanted
    rw [PanelUnit.runs_wait waits] at wakes
    simp only [w, wakes]
    exact ⟨trivial, rfl⟩

end

section
/-! PROOFS. Completions of WAKE, SLEEP and CHECK runs, with the runs that follow (chapter 7): O43, O44. -/

namespace Sys2Proof.Machine

section
variable {env : PanelEnv} {u : PanelUnit}

/-! ## Completions of WAKE and SLEEP runs -/

/-- A completion that asks for nothing more. -/
theorem PanelUnit.finish_of_none {slot : ScriptSlot} {failure : Option StepFailure} {v : PanelUnit} {n : Bool}
    (done_ : PanelWork.completed env slot failure ⟨u, false, none⟩ = ⟨v, n, none⟩) :
    u.finish env slot failure = ⟨v, n, none⟩ := by
  rw [PanelUnit.finish, done_, PanelWork.settle_none rfl]

/-- A completion that asks for a run. -/
theorem PanelUnit.finish_of_some {slot next : ScriptSlot} {failure : Option StepFailure} {v : PanelUnit} {n b : Bool}
    (done_ : PanelWork.completed env slot failure ⟨u, false, none⟩ = ⟨v, n, some ⟨next, b⟩⟩) :
    u.finish env slot failure = v.runs env next b n := by
  rw [PanelUnit.finish, done_]
  rfl

theorem PanelUnit.servedBy_of_unchecked (unchecked : ¬ (u.latched = true ∧ env.slots.check.isSome = true)) :
    u.servedBy env = none :=
  if_neg (by rwa [Bool.and_eq_true])

theorem PanelUnit.servedBy_of_checked (checked : u.latched = true ∧ env.slots.check.isSome = true) :
    u.servedBy env = some ⟨.check, true⟩ :=
  if_pos (by rwa [Bool.and_eq_true])

/-- A slot that holds an index is present. -/
theorem PanelUnit.checked_of_slotted {i : StepIndex} (latched : u.latched = true) (slotted : env.slots.check = some i) :
    u.latched = true ∧ env.slots.check.isSome = true := ⟨latched, by rw [slotted]; rfl⟩

/-- A failure outside CHECK faults the panel (R133, R138). -/
theorem PanelWork.completed_faults {slot : ScriptSlot} (boots : slot ≠ .check) (f : StepFailure) :
    PanelWork.completed env slot (some f) ⟨u, false, none⟩ =
      (PanelWork.faultAt env .script f ⟨u.ended, false, none⟩).askedByCompletion := by
  cases slot with
  | wake => rfl
  | sleep => rfl
  | check => exact absurd rfl boots

/-- What a fault of a unit without a run leaves, once the event's work has settled (R144). -/
theorem PanelUnit.settled_fault {kind : FaultKind} {f : StepFailure} {n : Bool} (rests : u.run = none) :
    let w := ((PanelWork.faultAt env kind f ⟨u, n, none⟩).askedByCompletion).settle env 8
    w.notify = true ∧ w.request = none ∧
      u.FaultedFrom w.unit ⟨kind, u.state, some (f.slot, f.index, f.kind), some f.error⟩ := by
  intro w
  have still : w = (PanelWork.faultAt env kind f ⟨u, n, none⟩).askedByCompletion := PanelWork.settle_none rfl 8
  obtain ⟨faulted, raised, _⟩ := PanelUnit.faultedFrom_fault (env := env) (u := u) (n := n) (kind := kind)
    (step := some (f.slot, f.index, f.kind)) (error := some f.error) (q := none)
  rw [PanelUnit.sending_of_no_run rests] at faulted
  rw [still]
  exact ⟨raised, rfl, faulted⟩

theorem PanelUnit.finish_sleep_dark (unwanted : u.wantedIn = false) :
    u.finish env .sleep none = ⟨u.cleared.enters env .dark, true, none⟩ :=
  PanelUnit.finish_of_none (PanelWork.completed_sleep_dark unwanted)

theorem PanelUnit.finish_sleep_wakes (wanted : u.wantedIn = true) :
    u.finish env .sleep none = ((u.cleared.enters env .dark).enters env .waking).runs env .wake true true :=
  PanelUnit.finish_of_some (PanelWork.completed_sleep_wakes wanted)

theorem PanelUnit.finish_sleep_notify : (u.finish env .sleep none).notify = true := by
  cases wanted : u.wantedIn with
  | true =>
    rw [PanelUnit.finish_sleep_wakes wanted]
    exact PanelWork.settle_raised 8 rfl
  | false => rw [PanelUnit.finish_sleep_dark wanted]

end

end Sys2Proof.Machine

open Sys2Proof Sys2Proof.Machine

/-- Settles O43: completions of WAKE and SLEEP runs. -/
theorem wakeAndSleepRunsComplete : Obligations.WakeAndSleepRunsComplete := by
  intro env u
  refine ⟨fun slot f boots => ?_, ?_, ?_⟩
  · intro w
    have faulted : w = ((PanelWork.faultAt env .script f ⟨u.ended, false, none⟩).askedByCompletion).settle env 8 :=
      congrArg (PanelWork.settle env 8) (PanelWork.completed_faults boots f)
    rw [faulted]
    exact PanelUnit.settled_fault rfl
  · intro w v settled checked waking
    refine ⟨PanelWork.settle_eight_request _ _, fun demand => ⟨fun unchecked => ?_, fun is => ?_,
      fun i code args latched slotted body => ?_⟩, fun idle timed => ?_, fun idle unwanted zero => ?_⟩
    · have lives := PanelWork.completed_wake_live (env := env) (n := false) demand
      rw [PanelUnit.servedBy_of_unchecked unchecked] at lives
      have ended : w = _ := PanelUnit.finish_of_none lives
      rw [ended]
      exact ⟨rfl, rfl⟩
    · have lives := PanelWork.completed_wake_live (env := env) (n := false) demand
      rw [PanelUnit.servedBy_of_checked is] at lives
      exact PanelUnit.finish_of_some lives
    · have lives := PanelWork.completed_wake_live (env := env) (n := false) demand
      rw [PanelUnit.servedBy_of_checked (PanelUnit.checked_of_slotted latched slotted)] at lives
      have ended : w = _ := PanelUnit.finish_of_some lives
      rw [ended, PanelUnit.runs_send (slot := .check) slotted body rfl]
      exact ⟨rfl, rfl⟩
    · intro timer rested
      refine ⟨fun unchecked => ?_, fun is => ?_, fun i code args latched slotted body => ?_⟩
      · have idles := PanelWork.completed_wake_idle (n := false) idle timed
        rw [PanelUnit.servedBy_of_unchecked unchecked] at idles
        have ended : w = _ := PanelUnit.finish_of_none idles
        rw [ended]
        exact ⟨rfl, rfl⟩
      · have idles := PanelWork.completed_wake_idle (n := false) idle timed
        rw [PanelUnit.servedBy_of_checked is] at idles
        exact PanelUnit.finish_of_some idles
      · have idles := PanelWork.completed_wake_idle (n := false) idle timed
        rw [PanelUnit.servedBy_of_checked (PanelUnit.checked_of_slotted latched slotted)] at idles
        have ended : w = _ := PanelUnit.finish_of_some idles
        rw [ended, PanelUnit.runs_send (slot := .check) slotted body rfl]
        exact ⟨rfl, rfl⟩
    · have sleeps : w = ((settled.enters env .idle).enters env .sleeping).runs env .sleep true false :=
        PanelUnit.finish_of_some (PanelWork.completed_wake_sleeps idle unwanted zero)
      refine ⟨sleeps, fun i d waits => ?_, fun absent => ?_⟩
      · rw [sleeps, PanelUnit.runs_wait waits]
        exact ⟨rfl, rfl⟩
      · rw [sleeps, PanelUnit.runs_sleep_absent (u := (settled.enters env .idle).enters env .sleeping) absent unwanted]
        exact ⟨rfl, rfl⟩
  · intro w settled
    refine ⟨PanelUnit.finish_sleep_notify, PanelWork.settle_eight_request _ _, fun unwanted => ?_,
      PanelUnit.finish_sleep_wakes, fun i d wanted waits => ?_, fun wanted absent => ?_⟩
    · have dark : w = _ := PanelUnit.finish_sleep_dark unwanted
      rw [dark]
      exact ⟨rfl, rfl⟩
    · have wakes : w = _ := PanelUnit.finish_sleep_wakes wanted
      rw [wakes, PanelUnit.runs_wait waits]
      rfl
    · have wakes : w = _ := PanelUnit.finish_sleep_wakes wanted
      by_cases demand : u.demandIn = true
      · rw [wakes, PanelUnit.runs_wake_absent_live (u := (u.cleared.enters env .dark).enters env .waking) absent rfl demand,
          if_pos demand]
        rfl
      · have idle : u.demandIn = false := Bool.eq_false_iff.2 demand
        rw [wakes, PanelUnit.runs_wake_absent_idle (u := (u.cleared.enters env .dark).enters env .waking) absent rfl idle
          (.inl wanted), PanelUnit.lingerFrom,
          if_pos (show ((u.cleared.enters env .dark).enters env .waking).wantedIn = true from wanted), if_neg demand]
        rfl

namespace Sys2Proof.Machine

/-! ## Completions of CHECK runs -/

/-- The recoveries counted in the window, with the one that a failed CHECK run makes (R142). -/
def PanelUnit.recoveriesNow (u : PanelUnit) : Nat :=
  match u.recoveryWindow with
  | none => 1
  | some _ => u.recoveryCount + 1

/-- The moment the window closes, opened at `now` when none is running (R142). -/
def PanelUnit.windowCloses (now : Nat) (u : PanelUnit) : Nat :=
  match u.recoveryWindow with
  | none => now + 10000000
  | some t => t

/-- The unit as a failed CHECK run leaves it before the panel faults (R142). -/
def PanelUnit.recovered (now : Nat) (u : PanelUnit) : PanelUnit :=
  { u with run := none, linger := .absent, recoveryCount := u.recoveriesNow, recoveryWindow := some (u.windowCloses now) }

/-- The unit as a failed CHECK run leaves it before the panel wakes again (R142). -/
def PanelUnit.recovering (now : Nat) (u : PanelUnit) : PanelUnit :=
  { u.recovered now with recoveries := Count.bump u.recoveries }

section
variable {env : PanelEnv} {u : PanelUnit}

theorem PanelUnit.countRecovery_eq (now : Nat) : u.countRecovery now =
    { u with recoveryCount := u.recoveriesNow, recoveryWindow := some (u.windowCloses now) } := by
  unfold PanelUnit.countRecovery PanelUnit.recoveriesNow PanelUnit.windowCloses
  split
  · next closed => simp only [closed, ms, recoverySpan]
  · next t window => simp only [window]

theorem PanelWork.completed_check_fails (f : StepFailure) : PanelWork.completed env .check (some f) ⟨u, false, none⟩ =
    (if 3 ≤ u.recoveriesNow then PanelWork.faultAt env .recoveryLimit f ⟨u.recovered env.now, false, none⟩
      else PanelWork.wake env ⟨u.recovering env.now, false, none⟩).askedByCompletion := by
  have counted : ({ u with run := none, linger := .absent } : PanelUnit).countRecovery env.now = u.recovered env.now :=
    PanelUnit.countRecovery_eq env.now
  simp only [PanelWork.completed, PanelWork.checkFails, PanelWork.removeLinger, counted]
  rfl

theorem PanelUnit.finish_check_faults {f : StepFailure} (third : 3 ≤ u.recoveriesNow) : u.finish env .check (some f) =
    ((PanelWork.faultAt env .recoveryLimit f ⟨u.recovered env.now, false, none⟩).askedByCompletion).settle env 8 := by
  rw [PanelUnit.finish, PanelWork.completed_check_fails, if_pos third]

theorem PanelUnit.finish_check_recovers {f : StepFailure} (few : u.recoveriesNow < 3) :
    u.finish env .check (some f) = ((u.recovering env.now).enters env .waking).runs env .wake true false := by
  rw [PanelUnit.finish, PanelWork.completed_check_fails, if_neg (Nat.not_le.2 few)]
  rfl

end

end Sys2Proof.Machine

open Sys2Proof Sys2Proof.Machine

/-- Settles O44: completions of CHECK runs. -/
theorem checkRunsRecoverOrFault : Obligations.CheckRunsRecoverOrFault := by
  intro env u
  refine ⟨fun free => PanelUnit.finish_of_none (PanelWork.completed_check_rests free), fun held => ?_, fun f => ?_⟩
  · intro w
    have sleeps : w = (u.ended.enters env .sleeping).runs env .sleep true false :=
      PanelUnit.finish_of_some (PanelWork.completed_check_sleeps held)
    refine ⟨sleeps, fun i d waits => ?_, fun absent unwanted => ?_⟩
    · rw [sleeps, PanelUnit.runs_wait waits]
      exact ⟨rfl, rfl⟩
    · rw [sleeps, PanelUnit.runs_sleep_absent (u := u.ended.enters env .sleeping) absent unwanted]
      exact ⟨rfl, rfl, rfl⟩
  · intro w n closes recovering
    refine ⟨fun third => ?_, fun few => ?_⟩
    · have faults : w = _ := PanelUnit.finish_check_faults third
      obtain ⟨raised, _, faulted⟩ := PanelUnit.settled_fault (env := env) (u := u.recovered env.now)
        (kind := .recoveryLimit) (f := f) (n := false) rfl
      rw [faults]
      exact ⟨raised, faulted⟩
    · have wakes : w = (recovering.enters env .waking).runs env .wake true false := PanelUnit.finish_check_recovers few
      refine ⟨wakes, fun i d waits => ?_, fun absent clear => ⟨PanelWork.settle_eight_request _ _, fun demand => ?_,
        fun idle wanted => ?_, fun idle unwanted timed => ?_⟩⟩
      · rw [wakes, PanelUnit.runs_wait waits]
        exact ⟨rfl, rfl⟩
      · rw [wakes, PanelUnit.runs_wake_absent_live (u := recovering.enters env .waking) absent clear demand,
          PanelUnit.cleared_of_clear (u := recovering.enters env .waking) clear]
        exact ⟨rfl, rfl⟩
      · rw [wakes, PanelUnit.runs_wake_absent_idle (u := recovering.enters env .waking) absent clear idle (.inl wanted),
          PanelUnit.lingerFrom, if_pos (show (recovering.enters env .waking).wantedIn = true from wanted),
          PanelUnit.cleared_of_clear (u := recovering.enters env .waking) clear]
        exact ⟨rfl, rfl⟩
      · rw [wakes, PanelUnit.runs_wake_absent_idle (u := recovering.enters env .waking) absent clear idle (.inr timed),
          PanelUnit.lingerFrom, if_neg (show ¬ (recovering.enters env .waking).wantedIn = true from
            Bool.eq_false_iff.1 unwanted),
          PanelUnit.cleared_of_clear (u := recovering.enters env .waking) clear]
        exact ⟨rfl, rfl⟩

end

section
/-! PROOFS. Attentions, timers and the commands of a panel (chapter 7): O45, O46, O47. -/

namespace Sys2Proof.Machine

section
variable {s : State} {x : Panel} {work : PanelEnv → PanelWork → PanelWork}

/-- An event at a panel, from what its work settles to. -/
theorem State.onPanel_of_settled {w : PanelWork}
    (settled : (work (s.panelEnv x) ⟨s.panel x, false, none⟩).settle (s.panelEnv x) 8 = w) :
    s.onPanel x work = (s.setPanel x w.unit).raiseIf w.notify (panelFlag x) := by
  simp only [State.onPanel, settled]

/-- An event at a panel whose unit was just replaced. -/
theorem State.onPanel_setPanel {v : PanelUnit} {w : PanelWork}
    (settled : (work (s.panelEnv x) ⟨v, false, none⟩).settle (s.panelEnv x) 8 = w) :
    (s.setPanel x v).onPanel x work = (s.setPanel x w.unit).raiseIf w.notify (panelFlag x) := by
  have env : (s.setPanel x v).panelEnv x = s.panelEnv x := by cases x <;> rfl
  have same : (s.setPanel x v).panel x = v := by cases x <;> rfl
  rw [State.onPanel_of_settled (w := w) (by rw [env, same, settled]), State.setPanel_setPanel]

/-! ## Attentions (R141) -/

/-- The unit with an attention counted on its asserted line. -/
def PanelUnit.counted (u : PanelUnit) : PanelUnit :=
  { u with attentionLine := true, attentions := Count.bump u.attentions }

theorem execAttention_lineOnly (rests : s.inReset = true ∨ (s.panel x).attentionLine = true) :
    execAttention x s = .next (s.setPanel x { s.panel x with attentionLine := true }) :=
  if_pos (by rwa [Bool.or_eq_true])

theorem execAttention_edge (running : s.inReset = false) (released : (s.panel x).attentionLine = false) {w : PanelWork}
    (settled : (PanelWork.attend (s.panelEnv x) ⟨{ s.panel x with attentionLine := true }, false, none⟩).settle
      (s.panelEnv x) 8 = w) :
    execAttention x s = .next ((s.setPanel x w.unit).raiseIf w.notify (panelFlag x)) := by
  rw [execAttention, running, released, ← State.onPanel_setPanel settled]
  rfl

section
variable {env : PanelEnv} {u : PanelUnit}

theorem PanelWork.attend_rests (rests : u.state = .dark ∨ u.state = .fault ∨
    (u.state.streams = true ∧ (u.run.isSome = true ∨ env.slots.check = none))) :
    PanelWork.attend env ⟨{ u with attentionLine := true }, false, none⟩ = ⟨u.counted, false, none⟩ := by
  have busy (held : u.run.isSome = true ∨ env.slots.check = none) :
      (if u.run.isSome then (⟨u.counted, false, none⟩ : PanelWork) else PanelWork.askCheck env ⟨u.counted, false, none⟩) =
        ⟨u.counted, false, none⟩ := by
    rcases held with running | absent
    · exact if_pos running
    · have unasked : PanelWork.askCheck env ⟨u.counted, false, none⟩ = ⟨u.counted, false, none⟩ :=
        if_neg (by rw [absent]; nofun)
      rw [unasked, ite_self]
  simp only [PanelWork.attend]
  split
  case h_1 state =>
    simp only [state] at rests
    exact busy (by simpa [PanelState.streams] using rests)
  case h_2 state =>
    simp only [state] at rests
    exact busy (by simpa [PanelState.streams] using rests)
  case h_3 state => simp [state, PanelState.streams] at rests
  case h_4 state => simp [state, PanelState.streams] at rests
  all_goals rfl

theorem PanelWork.attend_latches (boots : u.state = .waking ∨ u.state = .sleeping) :
    PanelWork.attend env ⟨{ u with attentionLine := true }, false, none⟩ =
      ⟨{ u.counted with latched := true }, false, none⟩ := by
  simp only [PanelWork.attend]
  split
  case h_3 | h_4 => rfl
  all_goals next state => simp [state] at boots

theorem PanelWork.attend_serves (streams : u.state.streams = true) (rests : u.run = none)
    (slotted : env.slots.check.isSome = true) :
    PanelWork.attend env ⟨{ u with attentionLine := true }, false, none⟩ = ⟨u.counted, false, some ⟨.check, false⟩⟩ := by
  have asked : (if u.run.isSome then (⟨u.counted, false, none⟩ : PanelWork)
      else PanelWork.askCheck env ⟨u.counted, false, none⟩) = ⟨u.counted, false, some ⟨.check, false⟩⟩ :=
    (if_neg (by rw [rests]; nofun)).trans (if_pos slotted)
  simp only [PanelWork.attend]
  split
  case h_1 | h_2 => exact asked
  all_goals next state => simp [state, PanelState.streams] at streams

end

/-! ## Linger expiry and the recovery window (R137, R143) -/

theorem execLingerExpiry_absent (running : s.inReset = false) (absent : ∀ t, (s.panel x).linger ≠ .running t) :
    execLingerExpiry x s = .next s := by
  have due : (s.panel x).lingerDue = none := by
    unfold PanelUnit.lingerDue
    split
    · next t timer => exact absurd timer (absent t)
    · rfl
  rw [execLingerExpiry, State.onEvent_running running, due]
  rfl

theorem execLingerExpiry_due (running : s.inReset = false) {t : Nat} (timer : (s.panel x).linger = .running t)
    {w : PanelWork} (settled : (PanelWork.lingerExpires (({ s with now := max s.now t } : State).panelEnv x)
      ⟨s.panel x, false, none⟩).settle (({ s with now := max s.now t } : State).panelEnv x) 8 = w) :
    execLingerExpiry x s = .next ((({ s with now := max s.now t } : State).setPanel x w.unit).raiseIf
      w.notify (panelFlag x)) := by
  have due : (s.panel x).lingerDue = some t := by simp only [PanelUnit.lingerDue, timer]
  rw [execLingerExpiry, State.onEvent_running running, due]
  have panel : ({ s with now := max s.now t } : State).panel x = s.panel x := by cases x <;> rfl
  exact congrArg Host.Outcome.next (State.onPanel_of_settled (s := { s with now := max s.now t }) (by rw [panel]; exact settled))

end

end Sys2Proof.Machine

open Sys2Proof Sys2Proof.Machine

/-- Settles O45: attentions in every panel state. -/
theorem attentionIsCountedLatchedOrServed : Obligations.AttentionIsCountedLatchedOrServed := by
  intro x s u counted
  refine ⟨rfl, execAttention_lineOnly, fun running released => ⟨fun rests => ?_, fun boots => ?_,
    fun streams rests slotted => ?_, fun i code args streams rests slotted body => ?_⟩⟩
  · have quiet : PanelWork.attend (s.panelEnv x) ⟨{ u with attentionLine := true }, false, none⟩ = ⟨counted, false, none⟩ :=
      PanelWork.attend_rests rests
    exact execAttention_edge running released ((congrArg (PanelWork.settle _ 8) quiet).trans (PanelWork.settle_none rfl 8))
  · have latches : PanelWork.attend (s.panelEnv x) ⟨{ u with attentionLine := true }, false, none⟩ = _ :=
      PanelWork.attend_latches boots
    exact execAttention_edge running released ((congrArg (PanelWork.settle _ 8) latches).trans (PanelWork.settle_none rfl 8))
  · have serves : PanelWork.attend (s.panelEnv x) ⟨{ u with attentionLine := true }, false, none⟩ = _ :=
      PanelWork.attend_serves streams rests slotted
    exact execAttention_edge running released (congrArg (PanelWork.settle _ 8) serves)
  · have serves : PanelWork.attend (s.panelEnv x) ⟨{ u with attentionLine := true }, false, none⟩ = _ :=
      PanelWork.attend_serves streams rests (by rw [show (s.panelEnv x).slots.check = some i from slotted]; rfl)
    exact execAttention_edge running released ((congrArg (PanelWork.settle _ 8) serves).trans
      (PanelUnit.runs_send (slot := .check) slotted body streams))

/-- Settles O46: the linger expiry and the close of the recovery window. -/
theorem lingerExpiryAndWindowClose : Obligations.LingerExpiryAndWindowClose := by
  intro x s running u
  have sleeps {t : Nat} (timer : u.linger = .running t) (rests : u.run = none) {w : PanelWork}
      (runs : (u.enters (({ s with now := max s.now t } : State).panelEnv x) .sleeping).runs
        (({ s with now := max s.now t } : State).panelEnv x) .sleep false false = w) :
      exec (.lingerExpiry x) s =
        .next ((({ s with now := max s.now t } : State).setPanel x w.unit).raiseIf w.notify (panelFlag x)) := by
    have expires : PanelWork.lingerExpires (({ s with now := max s.now t } : State).panelEnv x) ⟨u, false, none⟩ =
        PanelWork.putToSleep _ ⟨u, false, none⟩ := if_neg (by rw [rests]; nofun)
    exact execLingerExpiry_due running timer ((congrArg (PanelWork.settle _ 8) expires).trans runs)
  refine ⟨execLingerExpiry_absent running, fun t r timer flight => ?_, fun t timer rests => sleeps timer rests rfl,
    fun t i d timer rests waits => ⟨_, sleeps timer rests (PanelUnit.runs_wait waits), rfl⟩,
    fun t timer rests unwanted absent => ⟨_, sleeps timer rests (PanelUnit.runs_sleep_absent
      (u := u.enters (({ s with now := max s.now t } : State).panelEnv x) .sleeping) absent unwanted), ?_⟩,
    fun closed => ?_, fun t window => ?_⟩
  · have held : PanelWork.lingerExpires (({ s with now := max s.now t } : State).panelEnv x) ⟨u, false, none⟩ =
        ⟨{ u with linger := .held }, false, none⟩ := if_pos (by rw [flight]; rfl)
    exact execLingerExpiry_due running timer ((congrArg (PanelWork.settle _ 8) held).trans (PanelWork.settle_none rfl 8))
  · have ended : u.ended = u := congrArg (fun run => ({ u with run := run } : PanelUnit)) rests.symm
    rw [← ended]
    rfl
  · have stands : execRecoveryWindowClose x s = .next s := by
      rw [execRecoveryWindowClose, State.onEvent_running running, show (s.panel x).recoveryWindow = none from closed]
      rfl
    exact stands
  · have closes : execRecoveryWindowClose x s = .next (({ s with now := max s.now t } : State).setPanel x
        { u with recoveryCount := 0, recoveryWindow := none }) := by
      rw [execRecoveryWindowClose, State.onEvent_running running, show (s.panel x).recoveryWindow = some t from window]
      exact congrArg Host.Outcome.next (State.onPanel_of_quiet (s := { s with now := max s.now t }) (x := x)
        (work := fun _ w => w.closeWindow) (v := { u with recoveryCount := 0, recoveryWindow := none })
        (by cases x <;> rfl))
    exact closes

namespace Sys2Proof.Machine

/-! ## Commands of a panel (R139, R147 to R149) -/

/-- The unit that PANEL RESTART begins with, its fault record and recovery window cleared (R147). -/
def PanelUnit.restarted (u : PanelUnit) : PanelUnit :=
  { u with faultRecord := none, recoveryCount := 0, recoveryWindow := none, linger := .absent }

theorem execPanelConfig_done {s : State} (opened : s.portOpen = true) (linger : Half) : execPanelConfig linger s =
    .next (({ s with lingerTime := min 10000 linger.toNat }).hold ⟨.done, byte2 (min 10000 linger.toNat)⟩) := by
  have clamped : clamp 0 10000 linger.toNat = min 10000 linger.toNat := by
    rw [clamp_eq (h := by decide), Nat.zero_max]
  rw [execPanelConfig, State.onCommand_open opened, clamped]
  rfl

section
variable {env : PanelEnv} {u : PanelUnit}

theorem PanelWork.restart_rests (unwanted : u.wantedIn = false) :
    PanelWork.restart env ⟨u, false, none⟩ = ⟨u.restarted.enters env .dark, true, none⟩ :=
  if_neg (Bool.eq_false_iff.1 unwanted)

theorem PanelWork.restart_wakes (wanted : u.wantedIn = true) :
    PanelWork.restart env ⟨u, false, none⟩ = ⟨u.restarted.enters env .waking, false, some ⟨.wake, false⟩⟩ :=
  if_pos wanted

theorem PanelWork.askCheck_absent (absent : env.slots.check = none) :
    PanelWork.askCheck env ⟨u, false, none⟩ = ⟨u, false, none⟩ :=
  if_neg (by rw [absent]; nofun)

theorem PanelWork.askCheck_present (slotted : env.slots.check.isSome = true) :
    PanelWork.askCheck env ⟨u, false, none⟩ = ⟨u, false, some ⟨.check, false⟩⟩ :=
  if_pos slotted

end

section
variable {s : State} (opened : s.portOpen = true) {b : Byte} {x : Panel} (names : panelOfByte b = some x)
include opened names

theorem execPanelRestart_wakes (fault : (s.panel x).state = .fault) (wanted : (s.panel x).wantedIn = true) {w : PanelWork}
    (runs : ((s.panel x).restarted.enters (s.panelEnv x) .waking).runs (s.panelEnv x) .wake false false = w) :
    execPanelRestart b s = .next (((s.setPanel x w.unit).raiseIf w.notify (panelFlag x)).hold
      ⟨if (s.scripts.slots x).wake.isSome then .started else .done, []⟩) := by
  rw [execPanelRestart_done opened names fault, wanted, Bool.true_and, State.onPanel_of_settled
    ((congrArg (PanelWork.settle (s.panelEnv x) 8) (PanelWork.restart_wakes wanted)).trans runs)]

theorem execPanelRestart_rests (fault : (s.panel x).state = .fault) (unwanted : (s.panel x).wantedIn = false) :
    execPanelRestart b s = .next (((s.setPanel x ((s.panel x).restarted.enters (s.panelEnv x) .dark)).raise
      (panelFlag x)).hold ⟨.done, []⟩) := by
  rw [execPanelRestart_done opened names fault, unwanted, Bool.false_and, State.onPanel_of_settled
    ((congrArg (PanelWork.settle (s.panelEnv x) 8) (PanelWork.restart_rests unwanted)).trans (PanelWork.settle_none rfl 8))]
  rfl

theorem execPanelCheck_starts (streams : (s.panel x).state.streams = true) (rests : (s.panel x).run = none)
    (slotted : (s.scripts.slots x).check.isSome = true) {w : PanelWork}
    (runs : (s.panel x).runs (s.panelEnv x) .check false false = w) :
    execPanelCheck b s = .next (((s.setPanel x w.unit).raiseIf w.notify (panelFlag x)).hold ⟨.started, []⟩) := by
  rw [execPanelCheck_done opened names streams rests, if_pos slotted, State.onPanel_of_settled
    ((congrArg (PanelWork.settle (s.panelEnv x) 8) (PanelWork.askCheck_present slotted)).trans runs)]

end

end Sys2Proof.Machine

open Sys2Proof Sys2Proof.Machine

/-- Settles O47: the commands of a panel. -/
theorem panelCommandsAct : Obligations.PanelCommandsAct := by
  intro s opened
  refine ⟨fun x now => PanelUnit.sending_iff now _, fun b above => ⟨execPanelStop_range opened above,
    execPanelRestart_range opened above, execPanelCheck_range opened above⟩, execPanelConfig_done opened, ?_⟩
  intro b x names u cleared env after step
  have restarts (fault : u.state = .fault) (wanted : u.wantedIn = true) {w : PanelWork}
      (runs : (u.restarted.enters env .waking).runs env .wake false false = w) : exec (.panelRestart b) s = _ :=
    execPanelRestart_wakes opened names fault wanted runs
  refine ⟨execPanelStop_faulted opened names, fun running => ?_, execPanelRestart_refused opened names,
    fun fault unwanted => ⟨_, ?_, execPanelRestart_rests opened names fault unwanted⟩,
    fun fault wanted => restarts fault wanted rfl, fun fault wanted idle clear absent => ?_,
    fun i d fault wanted waits => ?_, fun fault wanted demand clear absent => ?_,
    execPanelCheck_refused opened names, execPanelCheck_busy opened names, fun streams rests absent => ?_,
    fun streams rests slotted => execPanelCheck_starts opened names streams rests slotted rfl,
    fun i code args streams rests slotted body => execPanelCheck_starts opened names streams rests
      (by rw [slotted]; rfl) (PanelUnit.runs_send (slot := .check) slotted body streams)⟩
  · obtain ⟨faulted, raised, settled⟩ := PanelUnit.faultedFrom_fault (env := env) (u := u) (n := false) (kind := .stopped)
      (step := u.run.map fun r => (r.slot, r.stoppedAt env.now, env.kindAt (r.stoppedAt env.now))) (error := none) (q := none)
    refine ⟨_, faulted, (execPanelStop_done opened names running).trans ?_⟩
    rw [State.onPanel_of_settled (PanelWork.settle_none settled 8), raised]
    rfl
  · rfl
  · have lingers : (u.restarted.enters env .waking).lingerFrom env = .absent := if_pos wanted
    have idles := PanelUnit.runs_wake_absent_idle (env := env) (u := u.restarted.enters env .waking) (n := false) (b := false)
      absent clear idle (.inl wanted)
    rw [lingers, PanelUnit.cleared_of_clear (u := u.restarted.enters env .waking) clear] at idles
    refine ⟨{ (u.restarted.enters env .waking).ended.enters env .idle with linger := .absent }, ?_,
      (restarts fault wanted idles).trans ?_⟩
    · rfl
    · rw [absent]
      rfl
  · refine ⟨{ u.restarted.enters env .waking with run := firstStep .wake i (.waiting (env.now + 1000 * d)) env.now }, ?_,
      (restarts fault wanted (PanelUnit.runs_wait waits)).trans ?_⟩
    · rfl
    · rw [show (s.scripts.slots x).wake = some i from waits.1]
      rfl
  · have lives := PanelUnit.runs_wake_absent_live (env := env) (u := u.restarted.enters env .waking) (n := false) (b := false)
      absent clear demand
    rw [PanelUnit.cleared_of_clear (u := u.restarted.enters env .waking) clear] at lives
    refine ⟨(u.restarted.enters env .waking).ended.enters env .live, ?_, (restarts fault wanted lives).trans ?_⟩
    · rfl
    · rw [absent]
      rfl
  · refine (execPanelCheck_done opened names streams rests).trans ?_
    rw [absent, State.onPanel_of_quiet (PanelWork.askCheck_absent absent), State.setPanel_panel]
    rfl

end

section
/-! PROOFS. Script Engines (chapter 8): the events of a run, how it goes from step to step and how replies are judged:
O48, O49, O50. -/

namespace Sys2Proof.Machine

section
variable {s : State} {x : Panel} {work work' : PanelEnv → PanelWork → PanelWork}

/-! ## Timed events of a panel -/

theorem State.onPanel_congr (same : work (s.panelEnv x) ⟨s.panel x, false, none⟩ =
    work' (s.panelEnv x) ⟨s.panel x, false, none⟩) : s.onPanel x work = s.onPanel x work' := by
  simp only [State.onPanel, same]

/-- An event at a panel that leaves it as it is. -/
theorem State.onPanel_rests (rests : work (s.panelEnv x) ⟨s.panel x, false, none⟩ = ⟨s.panel x, false, none⟩) :
    s.onPanel x work = s := by
  rw [State.onPanel_of_quiet rests, State.setPanel_panel]

variable {due : State → Option Nat}

theorem State.onEvent_undue (running : s.inReset = false) (none_ : due s = none) :
    s.onEvent (fun s => s.onPanelDue x (due s) work) = .next s := by
  rw [State.onEvent_running running, none_]
  rfl

theorem State.onEvent_due (running : s.inReset = false) {t : Nat} (falls : due s = some t) :
    s.onEvent (fun s => s.onPanelDue x (due s) work) = .next ((s.reach t).onPanel x work) := by
  rw [State.onEvent_running running, falls]
  rfl

/-- A timed event whose work comes down to another. -/
theorem State.onEvent_due_as (running : s.inReset = false) {t : Nat} (falls : due s = some t)
    (same : work ((s.reach t).panelEnv x) ⟨s.panel x, false, none⟩ = work' ((s.reach t).panelEnv x) ⟨s.panel x, false, none⟩) :
    s.onEvent (fun s => s.onPanelDue x (due s) work) = .next ((s.reach t).onPanel x work') := by
  have same' : work ((s.reach t).panelEnv x) ⟨(s.reach t).panel x, false, none⟩ =
      work' ((s.reach t).panelEnv x) ⟨(s.reach t).panel x, false, none⟩ := by
    rw [State.reach_panel]
    exact same
  rw [State.onEvent_due running falls, State.onPanel_congr same']

end

/-! ## The events of a run, by the phase of its step (R161, R165, R166, R170) -/

section
variable {env : PanelEnv} {u : PanelUnit} {r : Run} (flight : u.run = some r)
include flight

theorem PanelUnit.pollDeadline_poll {steps : Vector Step 256} {code : Byte} {pairs : List (Byte × Byte)}
    {interval timeout : Nat} (body : steps[r.index].body = .poll code pairs interval timeout) :
    u.pollDeadline steps = some (r.pollBegan + 1000 * timeout) := by
  simp only [PanelUnit.pollDeadline, flight, body, ms, Nat.mul_comm]

theorem PanelUnit.pollDeadline_other {steps : Vector Step 256}
    (other : ∀ code pairs interval timeout, steps[r.index].body ≠ .poll code pairs interval timeout) :
    u.pollDeadline steps = none := by
  simp only [PanelUnit.pollDeadline, flight]

theorem PanelWork.linkPacketArrives_judged {packet : List Byte} {reply : LinkReply} {packetEnds : Nat}
    (awaits : r.phase = .awaitReply packetEnds false) (valid : validReply packet = some reply) :
    PanelWork.linkPacketArrives env packet ⟨u, false, none⟩ = PanelWork.judgeReply env r reply ⟨u, false, none⟩ := by
  simp only [PanelWork.linkPacketArrives, flight, awaits, valid]

theorem PanelWork.linkPacketArrives_discarded {packet : List Byte}
    (discarded : (∀ packetEnds, r.phase ≠ .awaitReply packetEnds false) ∨ validReply packet = none) :
    PanelWork.linkPacketArrives env packet ⟨u, false, none⟩ = ⟨u, false, none⟩ := by
  simp only [PanelWork.linkPacketArrives, flight]
  split
  · next awaits valid =>
    rcases discarded with other | invalid
    · exact absurd awaits (other _)
    · rw [invalid] at valid
      nomatch valid
  · rfl

theorem PanelWork.replyTimesOut_awaiting {packetEnds : Nat} {lost : Bool} (awaits : r.phase = .awaitReply packetEnds lost) :
    PanelWork.replyTimesOut env ⟨u, false, none⟩ = PanelWork.stepError env r .noReply ⟨u, false, none⟩ := by
  simp only [PanelWork.replyTimesOut, flight, awaits]

theorem PanelWork.waitEnds_waiting {t : Nat} (waits : r.phase = .waiting t) :
    PanelWork.waitEnds env ⟨u, false, none⟩ = PanelWork.goOn env r ⟨u, false, none⟩ := by
  simp only [PanelWork.waitEnds, flight, waits]

section
variable {code : Byte} {pairs : List (Byte × Byte)} {interval timeout : Nat}
  (body : env.steps[r.index].body = .poll code pairs interval timeout)
include body

theorem PanelWork.pollTimesOut_awaiting {packetEnds : Nat} {lost : Bool} (awaits : r.phase = .awaitReply packetEnds lost) :
    PanelWork.pollTimesOut env ⟨u, false, none⟩ = ⟨u, false, none⟩ := by
  simp only [PanelWork.pollTimesOut, flight, awaits, body]

theorem PanelWork.pollTimesOut_waiting (waits : r.phase = .waitStart ∨ ∃ t, r.phase = .pollGap t) :
    PanelWork.pollTimesOut env ⟨u, false, none⟩ = PanelWork.stepError env r .pollTimeout ⟨u, false, none⟩ := by
  rcases waits with waits | ⟨t, waits⟩ <;> simp only [PanelWork.pollTimesOut, flight, waits, body]

theorem PanelWork.pollReadFallsDue_gap {t : Nat} (gap : r.phase = .pollGap t) :
    PanelWork.pollReadFallsDue env ⟨u, false, none⟩ = PanelWork.transact env r code [] ⟨u, false, none⟩ := by
  simp only [PanelWork.pollReadFallsDue, flight, gap, body]

end

end

theorem execPollReadDue_gap {s : State} {x : Panel} (running : s.inReset = false) {r : Run}
    (flight : (s.panel x).run = some r) {t : Nat} (gap : r.phase = .pollGap t) {code : Byte} {pairs : List (Byte × Byte)}
    {interval timeout : Nat} (body : s.scripts.steps[r.index].body = .poll code pairs interval timeout) {v : PanelUnit}
    (reads : PanelWork.transact ((s.reach t).panelEnv x) r code [] ⟨s.panel x, false, none⟩ = ⟨v, false, none⟩) :
    execPollReadDue x s = .next ((s.reach t).setPanel x v) := by
  have due : (s.panel x).pollDue = some t := by simp only [PanelUnit.pollDue, flight, gap]
  have asks := PanelWork.pollReadFallsDue_gap (env := (s.reach t).panelEnv x) flight body gap
  rw [execPollReadDue, State.onEvent_due running due, State.onPanel_of_quiet (v := v)
    (by rw [State.reach_panel, asks, reads])]

end Sys2Proof.Machine

open Sys2Proof Sys2Proof.Machine

/-- Settles O48: the events of a run by the phase of the step under way. -/
theorem runEventsReachTheStepUnderWay : Obligations.RunEventsReachTheStepUnderWay := by
  intro x s packet running at_
  have undueReply (none_ : (s.panel x).replyDue = none) : execReplyTimeout x s = .next s :=
    State.onEvent_undue running none_
  have undueWait (none_ : (s.panel x).waitDue = none) : execWaitEnd x s = .next s := State.onEvent_undue running none_
  have undueRead (none_ : (s.panel x).pollDue = none) : execPollReadDue x s = .next s := State.onEvent_undue running none_
  have undueTimeout (none_ : (s.panel x).pollDeadline s.scripts.steps = none) : execPollTimeout x s = .next s :=
    State.onEvent_undue running none_
  have arrives : execPanelLinkReply x packet s = .next (s.onPanel x fun env w => w.linkPacketArrives env packet) :=
    State.onEvent_running running _
  refine ⟨fun rests => ⟨?_, undueReply ?_, undueWait ?_, undueRead ?_, undueTimeout ?_⟩, fun r flight =>
    ⟨fun reply packetEnds awaits valid => ?_, fun discarded => ?_, fun packetEnds lost awaits =>
      ⟨?_, undueWait ?_, undueRead ?_⟩, fun t waits => ⟨?_, undueReply ?_, undueRead ?_⟩,
      fun code ps interval timeout body => ⟨fun packetEnds lost awaits => ?_, fun waits => ?_, fun t gap =>
        ⟨?_, fun streams => ?_, fun silent => ?_⟩⟩,
      fun other => undueTimeout (PanelUnit.pollDeadline_other flight other)⟩⟩
  · refine arrives.trans (congrArg Host.Outcome.next (State.onPanel_rests ?_))
    simp only [PanelWork.linkPacketArrives, rests]
  · simp only [PanelUnit.replyDue, rests]
  · simp only [PanelUnit.waitDue, rests]
  · simp only [PanelUnit.pollDue, rests]
  · simp only [PanelUnit.pollDeadline, rests]
  · exact arrives.trans (congrArg Host.Outcome.next
      (State.onPanel_congr (PanelWork.linkPacketArrives_judged flight awaits valid)))
  · exact arrives.trans (congrArg Host.Outcome.next
      (State.onPanel_rests (PanelWork.linkPacketArrives_discarded flight discarded)))
  · have due : (s.panel x).replyDue = some (packetEnds + 2000) := by
      simp only [PanelUnit.replyDue, flight, awaits, ms]
    have timesOut : execReplyTimeout x s =
        .next ((at_ (packetEnds + 2000)).onPanel x fun env w => w.stepError env r .noReply) :=
      State.onEvent_due_as running due (PanelWork.replyTimesOut_awaiting flight awaits)
    exact timesOut
  · simp only [PanelUnit.waitDue, flight, awaits]
  · simp only [PanelUnit.pollDue, flight, awaits]
  · have due : (s.panel x).waitDue = some t := by simp only [PanelUnit.waitDue, flight, waits]
    have ends : execWaitEnd x s = .next ((at_ t).onPanel x fun env w => w.goOn env r) :=
      State.onEvent_due_as running due (PanelWork.waitEnds_waiting flight waits)
    exact ends
  · simp only [PanelUnit.replyDue, flight, waits]
  · simp only [PanelUnit.pollDue, flight, waits]
  · have goesOn : execPollTimeout x s = .next ((s.reach (r.pollBegan + 1000 * timeout)).onPanel x fun _ w => w) :=
      State.onEvent_due_as running (PanelUnit.pollDeadline_poll flight body)
        (PanelWork.pollTimesOut_awaiting flight body awaits)
    exact goesOn.trans (congrArg Host.Outcome.next (State.onPanel_rests rfl))
  · have runsOut : execPollTimeout x s =
        .next ((at_ (r.pollBegan + 1000 * timeout)).onPanel x fun env w => w.stepError env r .pollTimeout) :=
      State.onEvent_due_as running (PanelUnit.pollDeadline_poll flight body)
        (PanelWork.pollTimesOut_waiting flight body (.inl waits))
    exact runsOut
  · have runsOut : execPollTimeout x s =
        .next ((at_ (r.pollBegan + 1000 * timeout)).onPanel x fun env w => w.stepError env r .pollTimeout) :=
      State.onEvent_due_as running (PanelUnit.pollDeadline_poll flight body)
        (PanelWork.pollTimesOut_waiting flight body (.inr ⟨t, gap⟩))
    exact runsOut
  · exact execPollReadDue_gap running flight gap body (if_pos streams)
  · exact execPollReadDue_gap running flight gap body (if_neg (Bool.eq_false_iff.1 silent))

namespace Sys2Proof.Machine

/-! ## The start of a run (R132, R155, R160) -/

theorem following_eq_some {i j : StepIndex} (next : j.val = i.val + 1) : following i = some j := by
  have small : i.val + 1 < 256 := by omega
  rw [following, dif_pos small]
  exact congrArg some (Fin.ext next.symm)

theorem following_eq_none {i : StepIndex} (last : i.val = 255) : following i = none := by
  have small : ¬ i.val + 1 < 256 := by omega
  rw [following, dif_neg small]

section
variable {env : PanelEnv} {slot : ScriptSlot} {i : StepIndex} {w : PanelWork}

/-- One run fewer to start needs one step fewer. -/
theorem PanelWork.settle_seven (w : PanelWork) : w.settle env 7 = w.settle env 8 :=
  PanelWork.settle_enough (w.runsToCome_le.trans (by decide)) (w.runsToCome_le.trans (by decide))

theorem PanelUnit.runs_eq {b n : Bool} {u : PanelUnit} :
    u.runs env slot b n = (PanelWork.startRun env ⟨slot, b⟩ ⟨u, n, none⟩).settle env 8 := by
  rw [PanelUnit.runs, PanelWork.settle_some rfl, PanelWork.settle_seven]

theorem PanelWork.startRun_present {b : Bool} (present : env.slots.get slot = some i) : w.startRun env ⟨slot, b⟩ =
    if b then (w.beginStep env slot 512 i).keepStart env i else w.beginStep env slot 512 i := by
  simp only [PanelWork.startRun, present]
  rfl

theorem PanelWork.completed_byCompletion {failure : Option StepFailure} {q : RunRequest}
    (asks : (w.completed env slot failure).request = some q) : q.byCompletion = true := by
  unfold PanelWork.completed at asks
  rw [PanelWork.askedByCompletion_request] at asks
  obtain ⟨_, _, is⟩ := Option.map_eq_some_iff.1 asks
  rw [← is]

/-! ## The start of a step, by its kind (R161, R163 to R170) -/

variable {left : Nat}

/-- A step that sends a command packet, with its code and arguments. -/
def StepBody.sends (body : StepBody) (code : Byte) (args : List Byte) : Prop :=
  body = .send code args ∨ (args = [] ∧ ∃ pairs, body = .read code pairs ∨ ∃ d t, body = .poll code pairs d t)

theorem PanelWork.beginStep_transacts {code : Byte} {args : List Byte} (sends : env.steps[i].body.sends code args) :
    w.beginStep env slot (left + 1) i = w.transact env ⟨slot, i, 512 - left, .waitStart, env.now, none⟩ code args := by
  rcases sends with body | ⟨rfl, pairs, body | ⟨d, t, body⟩⟩ <;> simp only [PanelWork.beginStep, body, maxSteps]

theorem PanelWork.beginStep_wait {d : Nat} (body : env.steps[i].body = .wait d) : w.beginStep env slot (left + 1) i =
    w.setRun ⟨slot, i, 512 - left, .waiting (env.now + 1000 * d), env.now, none⟩ := by
  simp only [PanelWork.beginStep, body, maxSteps, ms, Nat.mul_comm]

theorem PanelWork.beginStep_line {which : PanelLine} {level : Bool} (body : env.steps[i].body = .line which level)
    {j : StepIndex} (next : j.val = i.val + 1) :
    w.beginStep env slot (left + 1) i = (w.driveLine which level).beginStep env slot left j := by
  simp only [PanelWork.beginStep, body, following_eq_some next]

theorem PanelWork.beginStep_lastLine {which : PanelLine} {level : Bool} (body : env.steps[i].body = .line which level)
    (last : i.val = 255) : w.beginStep env slot (left + 1) i =
      (w.driveLine which level).completed env slot (some ⟨slot, i, .line, .runaway⟩) := by
  have kind : env.kindAt i = .line := by rw [PanelEnv.kindAt, body]; rfl
  simp only [PanelWork.beginStep, body, following_eq_none last, PanelWork.runaway, kind]

theorem PanelWork.driveLine_eq (which : PanelLine) (level : Bool) : w.driveLine which level = { w with unit := { w.unit with
    resetAsserted := if which = PanelLine.reset then level else w.unit.resetAsserted
    powerAsserted := if which = PanelLine.power then level else w.unit.powerAsserted } } := by
  cases which <;> rfl

theorem PanelWork.beginStep_goto {target : StepIndex} (body : env.steps[i].body = .goto target) :
    w.beginStep env slot (left + 1) i = w.beginStep env slot left target := by
  simp only [PanelWork.beginStep, body]

theorem PanelWork.beginStep_finish (body : env.steps[i].body = .finish) :
    w.beginStep env slot (left + 1) i = w.completed env slot none := by
  simp only [PanelWork.beginStep, body]

/-! ## What follows a step (R160, R167, R168) -/

theorem PanelWork.goOn_next {r : Run} {j : StepIndex} (next : j.val = r.index.val + 1) :
    w.goOn env r = w.beginStep env r.slot (512 - r.count) j := by
  simp only [PanelWork.goOn, following_eq_some next, maxSteps]

theorem PanelWork.goOn_last {r : Run} (last : r.index.val = 255) : w.goOn env r =
    w.completed env r.slot (some ⟨r.slot, r.index, env.steps[r.index].body.kind, .runaway⟩) := by
  simp only [PanelWork.goOn, following_eq_none last, PanelWork.runaway, PanelEnv.kindAt]

end

end Sys2Proof.Machine

open Sys2Proof Sys2Proof.Machine

/-- Settles O49: the start of a run, of each kind of step, and what follows a step. -/
theorem runGoesFromStepToStep : Obligations.RunGoesFromStepToStep := by
  intro env slot i w
  refine ⟨fun byCompletion notify u => ?_, fun q asks => ?_, fun none_ => PanelWork.settle_none none_ 8,
    fun failure q asks => PanelWork.completed_byCompletion asks, fun left small => ?_, rfl, fun r named at_ => ?_⟩
  · intro v started begun kept
    refine ⟨fun absent => ?_, fun present => ?_, PanelWork.settle_eight_request _ _⟩
    · exact PanelUnit.runs_eq.trans (congrArg (PanelWork.settle env 8)
        (PanelWork.startRun_absent (q := ⟨slot, byCompletion⟩) absent v))
    · exact PanelUnit.runs_eq.trans (congrArg (PanelWork.settle env 8) (PanelWork.startRun_present present))
  · obtain ⟨unit, notify, request⟩ := w
    cases asks
    rfl
  · intro run begun packet
    refine ⟨fun code args sends => ⟨fun streams => ?_, fun silent => ?_⟩, fun d body => PanelWork.beginStep_wait body,
      fun which level body => ?_, fun target body => PanelWork.beginStep_goto body,
      fun body => PanelWork.beginStep_finish body⟩
    · exact (PanelWork.beginStep_transacts sends).trans (if_pos streams)
    · exact (PanelWork.beginStep_transacts sends).trans (if_neg (Bool.eq_false_iff.1 silent))
    · intro driven
      have drives : w.driveLine which level = driven := PanelWork.driveLine_eq which level
      rw [← drives]
      exact ⟨fun j next => PanelWork.beginStep_line body next, PanelWork.beginStep_lastLine body⟩
  · subst named at_
    exact ⟨fun j next => PanelWork.goOn_next next, PanelWork.goOn_last, fun e => ⟨fun tolerated => if_pos tolerated, fun fails =>
      if_neg (Bool.eq_false_iff.1 fails)⟩⟩

end

section
/-! PROOFS. Link packets and the judgement of replies (chapter 8): O50. -/

namespace Sys2Proof.Machine

/-! ## Packets (R161, R162) -/

theorem validReply_append {body : List Byte} (kind : body ≠ []) (c : Byte) :
    validReply (body ++ [c]) = if c = crc8 body then some (linkReplyOf body) else none := by
  have long : 2 ≤ (body ++ [c]).length := by
    rw [List.length_append, List.length_singleton]
    have := List.length_pos_iff.2 kind
    omega
  simp only [validReply, long, List.getLast?_concat, List.dropLast_concat, Option.some.injEq, true_and]

theorem linkReplyOf_data {bytes : List Byte} (some_ : 1 ≤ bytes.length) (few : bytes.length ≤ 8) :
    linkReplyOf (0x03#8 :: BitVec.ofNat 8 bytes.length :: bytes) = .data bytes := by
  have count : (BitVec.ofNat 8 bytes.length).toNat = bytes.length := by
    rw [BitVec.toNat_ofNat]
    exact Nat.mod_eq_of_lt (by omega)
  exact if_pos ⟨count, some_, few⟩

theorem linkReplyOf_report (e : BitVec 4) : linkReplyOf [0x04#8, e.setWidth 8] = .report e := by
  have small : (e.setWidth 8).toNat < 16 := by
    rw [BitVec.toNat_setWidth]
    exact (Nat.mod_le _ _).trans_lt e.isLt
  have back : (e.setWidth 8).setWidth 4 = e := by
    rw [BitVec.setWidth_setWidth_of_le e (by decide), BitVec.setWidth_eq]
  exact (if_pos small).trans (congrArg LinkReply.report back)

theorem linkReplyOf_wideReport {e : Byte} (wide : 16 ≤ e.toNat) : linkReplyOf [0x04#8, e] = .other :=
  if_neg (Nat.not_lt.2 wide)

/-! ## The judgement by step kind (R162 to R165) -/

theorem bytesPass_iff {bytes : List Byte} {pairs : List (Byte × Byte)} :
    bytesPass bytes pairs = true ↔ ∀ q ∈ bytes.zip pairs, q.1 &&& q.2.1 = q.2.2 := by
  simp only [bytesPass, List.all_eq_true, decide_eq_true_iff]

theorem bytesPass_eq_false {bytes : List Byte} {pairs : List (Byte × Byte)}
    (fails : ∃ q ∈ bytes.zip pairs, q.1 &&& q.2.1 ≠ q.2.2) : ¬ bytesPass bytes pairs = true := by
  rw [bytesPass_iff]
  push Not
  exact fails

section
variable {env : PanelEnv} {r : Run} {w : PanelWork} {code : Byte} {pairs : List (Byte × Byte)} {bytes : List Byte}

theorem PanelWork.judgeReply_report (e : BitVec 4) : w.judgeReply env r (.report e) = w.stepError env r (.reported e) :=
  rfl

theorem PanelWork.judgeReply_read (body : env.steps[r.index].body = .read code pairs) :
    w.judgeReply env r (.data bytes) =
      if bytes.length ≠ pairs.length then w.stepError env r .protocol
      else if bytesPass bytes pairs then w.goOn env r
      else w.stepError env r .mismatch := by
  simp only [PanelWork.judgeReply, body]

theorem PanelWork.judgeReply_poll {interval timeout : Nat} (body : env.steps[r.index].body = .poll code pairs interval timeout) :
    w.judgeReply env r (.data bytes) =
      if bytes.length ≠ pairs.length then w.stepError env r .protocol
      else if bytesPass bytes pairs then w.goOn env r
      else if r.pollBegan + 1000 * timeout ≤ env.now then w.stepError env r .pollTimeout
      else w.setRun { r with phase := .pollGap (env.now + 1000 * interval) } := by
  simp only [PanelWork.judgeReply, body, ms, Nat.mul_comm timeout, Nat.mul_comm interval]

end

end Sys2Proof.Machine

open Sys2Proof Sys2Proof.Machine

/-- Settles O50: link packets, and the judgement of a reply by packet and step kind. -/
theorem repliesAreJudgedByStepKind : Obligations.RepliesAreJudgedByStepKind := by
  refine ⟨fun body kind => ⟨?_, fun c wrong => ?_⟩, rfl, fun bytes => linkReplyOf_data, linkReplyOf_report,
    fun e => linkReplyOf_wideReport, fun env r w => ?_⟩
  · rw [validReply_append kind, if_pos rfl]
  · rw [validReply_append kind, if_neg wrong]
  · intro judge err
    refine ⟨PanelWork.judgeReply_report, ?_, fun code args body => ⟨?_, fun bytes => ?_⟩,
      fun code ps body => ⟨?_, fun bytes => ⟨fun other => ?_, fun long => ⟨fun pass => ?_, fun fails => ?_⟩⟩⟩,
      fun code ps interval timeout body => ⟨?_, fun bytes => ⟨fun other => ?_, fun long => ⟨fun pass => ?_, fun fails =>
        ⟨fun late => ?_, fun early => ?_⟩⟩⟩⟩⟩
    · simp only [judge, PanelWork.judgeReply]
      rfl
    · simp only [judge, PanelWork.judgeReply, body]
    · simp only [judge, PanelWork.judgeReply, body]
      rfl
    · simp only [judge, PanelWork.judgeReply, body]
      rfl
    · exact (PanelWork.judgeReply_read body).trans (if_pos other)
    · exact (PanelWork.judgeReply_read body).trans ((if_neg (not_not.2 long)).trans (if_pos (bytesPass_iff.2 pass)))
    · exact (PanelWork.judgeReply_read body).trans ((if_neg (not_not.2 long)).trans (if_neg (bytesPass_eq_false fails)))
    · simp only [judge, PanelWork.judgeReply, body]
      rfl
    · exact (PanelWork.judgeReply_poll body).trans (if_pos other)
    · exact (PanelWork.judgeReply_poll body).trans ((if_neg (not_not.2 long)).trans (if_pos (bytesPass_iff.2 pass)))
    · exact (PanelWork.judgeReply_poll body).trans ((if_neg (not_not.2 long)).trans
        ((if_neg (bytesPass_eq_false fails)).trans (if_pos late)))
    · exact (PanelWork.judgeReply_poll body).trans ((if_neg (not_not.2 long)).trans
        ((if_neg (bytesPass_eq_false fails)).trans (if_neg (Nat.not_le.2 early))))

end

section
/-! PROOFS. The Command Port (chapter 9): every good command makes one reply, and what the closed port and RESETN ignore:
O5, O7, O8. -/

namespace Sys2Proof.Machine

/-! ## The work of a good command (R176, R179) -/

/-- The held reply and the report of the port stand. -/
def State.SamePort (s t : State) : Prop :=
  t.port.reply = s.port.reply ∧ t.port.replyRead = s.port.replyRead ∧ t.port.linkErrors = s.port.linkErrors

/-- What the work of a good command can answer: a refusal, which changes nothing, or DONE or STARTED with a new state. -/
inductive State.Answers (s : State) : State × Reply → Prop
  | refuses (st : Status) : s.Answers (refuse st s)
  | does (t : State) (st : Status) (data : List Byte) (port : s.SamePort t) (taken : st = .done ∨ st = .started) :
      s.Answers (t, ⟨st, data⟩)

/-- A command whose work answers so, once the port lets it through. -/
def State.Replies (s : State) (o : Result) : Prop :=
  ∃ work : State → State × Reply, o = s.onCommand work ∧ s.Answers (work s)

section
variable {s : State}

theorem State.SamePort.refl (s : State) : s.SamePort s := ⟨rfl, rfl, rfl⟩

theorem State.Answers.done_ {t : State} {data : List Byte} (port : s.SamePort t := by exact ⟨rfl, rfl, rfl⟩) :
    s.Answers (done t data) :=
  .does t .done data port (.inl rfl)

theorem State.Answers.reads (data : List Byte) : s.Answers (done s data) := .done_

theorem State.samePort_setPosture (u : PostureUnit) : s.SamePort (s.setPosture u) := by
  rw [State.setPosture, State.deliver_frame]
  exact ⟨rfl, rfl, rfl⟩

theorem State.samePort_raiseIf {t : State} (port : s.SamePort t) (b : Bool) (g : Flag) : s.SamePort (t.raiseIf b g) := by
  cases b <;> exact port

theorem State.samePort_onPanel (x : Panel) (work : PanelEnv → PanelWork → PanelWork) : s.SamePort (s.onPanel x work) := by
  rw [(s.onPanel_frame x work).1]
  exact ⟨rfl, rfl, rfl⟩

/-! ## Each command -/

theorem exec_read_replies {c : Instr} (read : isRead c = true) : s.Replies (exec c s) := by
  cases c <;> simp only [exec]
  case identify | notifyRead | hingeRead | zeroRead | zonesRead | postureRead | tagFind | reflowRead | layersRead |
      frameStatus => exact ⟨_, rfl, .reads _⟩
  case trackModeInvalidMode => exact ⟨_, rfl, .refuses _⟩
  case profileRead b =>
    refine ⟨_, rfl, ?_⟩
    split <;> [exact .reads _; exact .refuses _]
  case entryStatus b | panelRead b | scriptRead b n =>
    refine ⟨_, rfl, ?_⟩
    split <;> [exact .refuses _; exact .reads _]
  case entryRead b v =>
    refine ⟨_, rfl, ?_⟩
    split <;> [(split <;> [exact .reads _; exact .refuses _]); exact .refuses _]
  case placementRead b =>
    refine ⟨_, rfl, ?_⟩
    split <;> [exact .refuses _; (split <;> [exact .reads _; exact .refuses _])]
  all_goals exact absurd read Bool.false_ne_true

theorem execNotifyEnable_replies (value mask : Half) : s.Replies (execNotifyEnable value mask s) := by
  refine ⟨_, rfl, ?_⟩
  split
  · exact .refuses _
  · exact .done_

theorem execNotifyClear_replies (mask : Half) : s.Replies (execNotifyClear mask s) := by
  refine ⟨_, rfl, ?_⟩
  split
  · exact .refuses _
  · exact .done_

theorem execHingeConfig_replies (i k l : Half) : s.Replies (execHingeConfig i k l s) := by
  refine ⟨_, rfl, ?_⟩
  split
  · exact .refuses _
  · exact .done_

theorem execZeroWrite_replies (zl zr : Half) : s.Replies (execZeroWrite zl zr s) := by
  refine ⟨_, rfl, ?_⟩
  split <;> [skip; split]
  · exact .refuses _
  · exact .refuses _
  · exact .done_

theorem execZeroCapture_replies : s.Replies (execZeroCapture s) := by
  refine ⟨_, rfl, ?_⟩
  split
  · exact .refuses _
  · exact .does _ _ _ (by exact ⟨rfl, rfl, rfl⟩) (.inr rfl)

theorem execZonesWrite_replies (b1 b2 b3 b4 b5 : Half) : s.Replies (execZonesWrite b1 b2 b3 b4 b5 s) := by
  refine ⟨_, rfl, ?_⟩
  split
  · exact .refuses _
  · exact .done_

theorem execPostureConfig_replies (hy d m : Half) : s.Replies (execPostureConfig hy d m s) :=
  ⟨_, rfl, .done_ (s.samePort_setPosture _)⟩

theorem execProfileWrite_replies (b : Byte) (f : RawProfile) : s.Replies (execProfileWrite b f s) := by
  refine ⟨_, rfl, ?_⟩
  split
  · exact .done_ (s.samePort_setPosture _)
  · exact .refuses _

theorem execTrackModeTrack_replies : s.Replies (execTrackModeTrack s) :=
  ⟨_, rfl, .done_ (s.samePort_setPosture _)⟩

theorem execTrackModeHold_replies : s.Replies (execTrackModeHold s) :=
  ⟨_, rfl, .done_ (s.samePort_setPosture _)⟩

theorem execTrackModeForce_replies (b : Byte) : s.Replies (execTrackModeForce b s) := by
  refine ⟨_, rfl, ?_⟩
  split
  · exact .refuses _
  · exact .done_ (State.samePort_raiseIf (s.samePort_setPosture _) _ _)

theorem execLeadSet_replies (b : Byte) : s.Replies (execLeadSet b s) := by
  refine ⟨_, rfl, ?_⟩
  split <;> [skip; split]
  · exact .refuses _
  · exact .reads _
  · exact .done_ (s.samePort_setPosture _)

theorem execEntryBind_replies (f : RawEntry) : s.Replies (execEntryBind f s) := by
  refine ⟨_, rfl, ?_⟩
  split <;> [skip; split]
  · exact .refuses _
  · exact .refuses _
  · exact .done_

theorem execEntrySet_replies (b sel : Byte) (f : RawEntry) : s.Replies (execEntrySet b sel f s) := by
  refine ⟨_, rfl, ?_⟩
  split <;> [skip; (split <;> [skip; split])]
  · exact .refuses _
  · exact .refuses _
  · exact .refuses _
  · exact .done_

theorem execEntryRetire_replies (b : Byte) : s.Replies (execEntryRetire b s) := by
  refine ⟨_, rfl, ?_⟩
  split <;> [skip; split]
  · exact .refuses _
  · exact .done_
  · exact .refuses _

theorem execTagRetire_replies (tag : Half) : s.Replies (execTagRetire tag s) := ⟨_, rfl, .done_⟩

theorem execTablePublish_replies : s.Replies (execTablePublish s) := ⟨_, rfl, .done_⟩

theorem execDraftRevert_replies : s.Replies (execDraftRevert s) := ⟨_, rfl, .done_⟩

theorem execPanelConfig_replies (linger : Half) : s.Replies (execPanelConfig linger s) := ⟨_, rfl, .done_⟩

theorem execTimingSet_replies (b : Byte) : s.Replies (execTimingSet b s) := by
  refine ⟨_, rfl, ?_⟩
  split <;> [skip; split]
  · exact .refuses _
  · exact .done_
  · exact .refuses _

theorem execScriptWrite_replies (start : Byte) (raw : List RawStep) : s.Replies (execScriptWrite start raw s) := by
  refine ⟨_, rfl, ?_⟩
  split <;> [skip; (split <;> [skip; split])]
  · exact .refuses _
  · exact .refuses _
  · exact .refuses _
  · exact .done_

theorem execSlotSet_replies (b sl p i : Byte) : s.Replies (execSlotSet b sl p i s) := by
  refine ⟨_, rfl, ?_⟩
  split <;> [split; skip]
  · exact .refuses _
  · exact .done_
  · exact .refuses _

theorem execPanelRestart_replies (b : Byte) : s.Replies (execPanelRestart b s) := by
  refine ⟨_, rfl, ?_⟩
  split <;> [skip; split]
  · exact .refuses _
  · exact .does _ _ _ (s.samePort_onPanel _ _) (by split <;> simp)
  · exact .refuses _

theorem execPanelStop_replies (b : Byte) : s.Replies (execPanelStop b s) := by
  refine ⟨_, rfl, ?_⟩
  split <;> [skip; split]
  · exact .refuses _
  · exact .reads _
  · exact .done_ (s.samePort_onPanel _ _)

theorem execPanelCheck_replies (b : Byte) : s.Replies (execPanelCheck b s) := by
  refine ⟨_, rfl, ?_⟩
  split <;> [skip; (split <;> [skip; split])]
  · exact .refuses _
  · exact .refuses _
  · exact .refuses _
  · exact .does _ _ _ (s.samePort_onPanel _ _) (by split <;> simp)

/-- Every good command but SOFT RESET answers so. -/
theorem exec_replies {c : Instr} (host : isHostCommand c = true) (soft : c ≠ .softReset) (s : State) :
    s.Replies (exec c s) := by
  cases c
  case softReset => exact absurd rfl soft
  case notifyEnable => exact execNotifyEnable_replies _ _
  case notifyClear => exact execNotifyClear_replies _
  case hingeConfig => exact execHingeConfig_replies _ _ _
  case zeroWrite => exact execZeroWrite_replies _ _
  case zeroCapture => exact execZeroCapture_replies
  case zonesWrite => exact execZonesWrite_replies _ _ _ _ _
  case postureConfig => exact execPostureConfig_replies _ _ _
  case profileWrite => exact execProfileWrite_replies _ _
  case trackModeTrack => exact execTrackModeTrack_replies
  case trackModeHold => exact execTrackModeHold_replies
  case trackModeForce => exact execTrackModeForce_replies _
  case leadSet => exact execLeadSet_replies _
  case entryBind => exact execEntryBind_replies _
  case entrySet => exact execEntrySet_replies _ _ _
  case entryRetire => exact execEntryRetire_replies _
  case tagRetire => exact execTagRetire_replies _
  case tablePublish => exact execTablePublish_replies
  case draftRevert => exact execDraftRevert_replies
  case panelConfig => exact execPanelConfig_replies _
  case timingSet => exact execTimingSet_replies _
  case scriptWrite => exact execScriptWrite_replies _ _
  case slotSet => exact execSlotSet_replies _ _ _ _
  case panelRestart => exact execPanelRestart_replies _
  case panelStop => exact execPanelStop_replies _
  case panelCheck => exact execPanelCheck_replies _
  case identify | notifyRead | hingeRead | zeroRead | zonesRead | profileRead | postureRead | entryRead | entryStatus |
      tagFind | placementRead | reflowRead | layersRead | frameStatus | scriptRead | panelRead | trackModeInvalidMode =>
    exact exec_read_replies rfl
  all_goals exact absurd host Bool.false_ne_true

/-- Every good command passes the port's gate. -/
theorem exec_onCommand {c : Instr} (host : isHostCommand c = true) (s : State) :
    ∃ work : State → State × Reply, exec c s = s.onCommand work := by
  by_cases soft : c = .softReset
  · exact ⟨_, by rw [soft]; rfl⟩
  · obtain ⟨work, is, _⟩ := exec_replies host soft s
    exact ⟨work, is⟩

end

end Sys2Proof.Machine

open Sys2Proof Sys2Proof.Machine

/-- Settles O7: each work answers one reply, which is held. -/
theorem everyGoodCommandMakesOneReply : Obligations.EveryGoodCommandMakesOneReply := by
  intro c s host opened
  by_cases soft : c = .softReset
  · subst soft
    have answers : execSoftReset s = .next (s.softReset.hold ⟨.done, []⟩) := State.onCommand_open opened _
    exact ⟨_, _, answers, rfl, rfl, fun other => absurd rfl other, fun _ => ⟨rfl, rfl⟩, fun other => absurd rfl other⟩
  · obtain ⟨work, is, answers⟩ := exec_replies host soft s
    rw [is, State.onCommand_open opened]
    cases answered : work s with | _ t r
    rw [answered] at answers
    refine ⟨t.hold r, r, rfl, rfl, rfl, fun _ => ?_, fun other => absurd other soft, fun refused unstarted => ?_⟩
    · rw [State.hold_linkErrors]
      cases answers with
      | refuses => rfl
      | does _ _ _ port =>
        obtain ⟨reply, read, errors⟩ := port
        rw [reply, read, errors]
    · cases answers with
      | refuses => rfl
      | does _ _ _ _ taken => exact absurd taken (not_or.2 ⟨refused, unstarted⟩)

/-- Settles O8: the gates of the port and of RESETN. -/
theorem closedPortAndResetIgnore : Obligations.ClosedPortAndResetIgnore := by
  refine fun c s => ⟨fun host closed => ?_, fun held event notError low => ?_⟩
  · obtain ⟨work, is⟩ := exec_onCommand host s
    rw [is, State.onCommand_closed closed]
    rfl
  · cases c
    case commandLinkError bytes => exact absurd rfl (notError bytes)
    case attention | attentionLineRelease | replyRead | pinReset | resetnRelease => exact absurd held Bool.false_ne_true
    case sampleIntervalExpiry | sensorReply | sensorReadTimeout | sourceFrameStart | lineEnd | sourceFrameEnd |
        outputFrameStart | frmreqPulseEnd | outputFrameEnd | panelLinkReply | replyTimeout | waitEnd | pollReadDue |
        pollTimeout | lingerExpiry | recoveryWindowClose | startUpWindowClose => exact congrArg Host.Outcome.next (if_pos low)
    all_goals exact absurd rfl (Bool.eq_false_iff.1 event)

/-- Settles O5: the one error of a bad packet. -/
theorem linkErrorJoinsTheReport : Obligations.LinkErrorJoinsTheReport := by
  intro bytes e s bad
  have joins : execCommandLinkError bytes s =
      .next (if s.portOpen then { s with port := s.port.addLinkError e } else s).droveLow := by
    simp only [execCommandLinkError, bad]
  have mask : e.mask = BitVec.ofNat 5 (2 ^ e.bit) := by cases e <;> rfl
  refine Eq.trans joins ?_
  cases s.portOpen with
  | true =>
    simp only [if_true, ← mask]
    rfl
  | false => rfl

end

section
/-! PROOFS. REPLY READ, notifications, identification and the resets (chapter 9): O6, O10, O11, O12, O13, O60. -/

namespace Sys2Proof.Machine

/-! ## REPLY READ (R173, R177) -/

/-- The bytes of a reply before its check byte: status, report, length and data. -/
def Port.covered (p : Port) : List Byte :=
  let status := match p.reply with | some r => r.status | none => .none
  let data := match p.reply with | some r => r.data | none => []
  status.code :: BitVec.ofNat 8 p.linkErrors.toNat :: 0#8 ::
    BitVec.ofNat 8 data.length :: BitVec.ofNat 8 (data.length / 256) :: data

/-- The data of the held reply. -/
def Port.heldData (p : Port) : List Byte :=
  match p.reply with
  | some r => r.data
  | none => []

theorem Port.covered_length (p : Port) : p.covered.length = p.heldData.length + 5 := rfl

theorem Port.replyBytes_eq (p : Port) : p.replyBytes = p.covered ++ [crc8 p.covered] := by
  have high : BitVec.ofNat 8 (p.linkErrors.toNat / 256) = 0#8 := by
    rw [Nat.div_eq_of_lt (p.linkErrors.isLt.trans (by decide))]
  unfold Port.replyBytes Port.covered
  cases p.reply <;> simp only [byte2, high, Option.getD_none, Option.getD_some] <;> rfl

theorem Port.replyBytes_length (p : Port) : p.replyBytes.length = p.heldData.length + 6 := by
  rw [Port.replyBytes_eq, List.length_append, Port.covered_length]
  rfl

theorem sdoBytes_whole {reply : List Byte} {n : Nat} (whole : reply.length ≤ n) :
    sdoBytes reply n = reply ++ List.replicate (n - reply.length) 0#8 := by
  rw [sdoBytes, List.take_of_length_le whole]

theorem sdoBytes_cut {reply : List Byte} {n : Nat} (cut : n < reply.length) : sdoBytes reply n = reply.take n := by
  rw [sdoBytes, Nat.sub_eq_zero_of_le cut.le, List.replicate_zero, List.append_nil]

theorem sdoBytes_length (reply : List Byte) (n : Nat) : (sdoBytes reply n).length = n := by
  rw [sdoBytes, List.length_append, List.length_take, List.length_replicate]
  omega

section
variable {s : State}

theorem execReplyRead_whole (opened : s.portOpen = true) {n : Nat} (whole : s.port.replyBytes.length ≤ n) :
    execReplyRead n s = .next { s with port := { s.port with
      replyRead := true, linkErrors := 0, sdo := .reply (sdoBytes s.port.replyBytes n) } } := by
  simp only [execReplyRead, opened, if_true, if_pos whole]

theorem execReplyRead_cut (opened : s.portOpen = true) {n : Nat} (cut : n < s.port.replyBytes.length) :
    execReplyRead n s = .next { s with port := { s.port with sdo := .reply (sdoBytes s.port.replyBytes n) } } := by
  simp only [execReplyRead, opened, if_true, if_neg (Nat.not_le.2 cut)]

theorem execReplyRead_closed (closed : s.portOpen = false) (n : Nat) :
    execReplyRead n s = .next { s with port := { s.port with sdo := .low } } := by
  simp only [execReplyRead, closed]
  rfl

/-- What SDO carried of a REPLY READ, whole or cut short. -/
theorem execReplyRead_sdo {read : State} (opened : s.portOpen = true) {n : Nat} (h : execReplyRead n s = .next read) :
    read.port.sdo = .reply (sdoBytes s.port.replyBytes n) := by
  by_cases whole : s.port.replyBytes.length ≤ n
  · rw [execReplyRead_whole opened whole] at h
    cases h
    rfl
  · rw [execReplyRead_cut opened (Nat.not_le.1 whole)] at h
    cases h
    rfl

/-- A COMMAND leaves SDO low, good or bad. -/
theorem exec_command_sdo {c : Instr} {t : State} (h : exec c s = .next t)
    (command : isHostCommand c = true ∨ ∃ bytes e, c = .commandLinkError bytes ∧ linkErrorOf bytes = some e) :
    t.port.sdo = .low := by
  rcases command with host | ⟨bytes, e, rfl, bad⟩
  · obtain ⟨work, is⟩ := exec_onCommand host s
    rw [is] at h
    rcases State.onCommand_next h with ⟨-, rfl⟩ | ⟨-, rfl⟩ <;> rfl
  · cases (linkErrorJoinsTheReport bytes e s bad).symm.trans h
    rfl

/-! ## Resets (R189, R191) -/

theorem execPinReset_long {n : Nat} (long : 10000 ≤ n) : execPinReset n s = .next s.pinReset := by
  rw [execPinReset, if_neg (by omega), if_neg (by omega)]

theorem execSoftReset_done (opened : s.portOpen = true) : execSoftReset s = .next (s.softReset.hold ⟨.done, []⟩) :=
  State.onCommand_open opened _

theorem execStartUpWindowClose_open (running : s.inReset = false) {closes : Nat}
    (window : s.port.startUpCloses = some closes) : execStartUpWindowClose s =
      .next { s with now := max s.now closes, port := { s.port with startUpCloses := none } } := by
  unfold execStartUpWindowClose
  rw [State.onEvent_running running]
  simp only [window]
  rfl

/-! ## ALERT (R187) -/

theorem Port.alert_iff (p : Port) : p.alert = true ↔
    ∃ i, i < 10 ∧ p.flags.getLsbD i = true ∧ p.enables.getLsbD i = true := by
  rw [Port.alert, decide_eq_true_iff]
  constructor
  · intro some_
    by_contra none_
    push Not at none_
    refine some_ (BitVec.eq_of_getLsbD_eq fun i inside => ?_)
    have zero : BitVec.getLsbD (0 : BitVec 10) i = false := BitVec.getLsbD_zero
    rw [BitVec.getLsbD_and, zero]
    cases flag : p.flags.getLsbD i
    · rfl
    · rw [Bool.true_and, Bool.eq_false_iff]
      exact none_ i inside flag
  · rintro ⟨i, -, flag, enable⟩ none_
    have zero : BitVec.getLsbD (0 : BitVec 10) i = false := BitVec.getLsbD_zero
    have bit := congrArg (·.getLsbD i) none_
    simp only [BitVec.getLsbD_and, flag, enable, zero, Bool.and_self] at bit
    exact Bool.noConfusion bit

theorem alertByte_eq (p : Port) : assertedByte p.alert = [if p.flags &&& p.enables = 0 then 1#8 else 0#8] := by
  by_cases none_ : p.flags &&& p.enables = 0
  · rw [show p.alert = false from decide_eq_false (not_not.2 none_), if_pos none_]
    rfl
  · rw [show p.alert = true from decide_eq_true none_, if_neg none_]
    rfl

theorem Straps.byte_eq (p : Straps) : Straps.byte p =
    [(BitVec.ofBool p.leadsel ++ BitVec.ofBool p.polb ++ BitVec.ofBool p.pola).setWidth 8] := by
  obtain ⟨pola, polb, leadsel⟩ := p
  cases pola <;> cases polb <;> cases leadsel <;> rfl

end

end Sys2Proof.Machine

open Sys2Proof Sys2Proof.Machine

/-- Settles O6: what a REPLY READ drives, and what SDO carries. -/
theorem replyReadReturnsTheHeldReply : Obligations.ReplyReadReturnsTheHeldReply := by
  refine ⟨fun n s => ?_, fun c s t => exec_command_sdo, fun d position => rfl, fun position => rfl,
    fun bytes => ⟨rfl, fun k b at_ => ?_⟩, fun s read reset clocked lowNs opened long reads resets => ?_⟩
  · intro status data covered
    have bytes : s.port.replyBytes = covered ++ [crc8 covered] := s.port.replyBytes_eq
    have length : s.port.replyBytes.length = data.length + 6 := s.port.replyBytes_length
    refine ⟨fun opened whole => ?_, fun opened cut => ?_, fun closed => execReplyRead_closed closed n⟩
    · refine (execReplyRead_whole opened (length.trans_le whole)).trans ?_
      rw [sdoBytes_whole (length.trans_le whole), length, bytes, List.append_assoc]
      rfl
    · refine (execReplyRead_cut opened (cut.trans_eq length.symm)).trans ?_
      rw [sdoBytes_cut (cut.trans_eq length.symm), bytes]
  · exact congrArg some (show bytes.getD k 0#8 = b by rw [List.getD_eq_getElem?_getD, at_]; rfl)
  · cases (execPinReset_long long).symm.trans resets
    refine ⟨rfl, rfl, fun position => ?_⟩
    have sdo : read.pinReset.port.sdo = read.port.sdo := rfl
    rw [sdo]
    split
    · next past =>
      rw [execReplyRead_sdo opened reads]
      obtain ⟨k, rfl⟩ : ∃ k, position = k + 1 := ⟨position - 1, by omega⟩
      have low : (sdoBytes s.port.replyBytes clocked).getD k 0#8 = 0#8 := by
        rw [List.getD_eq_default _ _ (by rw [sdoBytes_length]; omega)]
      exact congrArg some low
    · rfl

/-- Settles O10: ALERT, NOTIFY READ and IDENTIFY. -/
theorem alertNotifyReadAndIdentify : Obligations.AlertNotifyReadAndIdentify := by
  refine ⟨Port.alert_iff, fun s opened => ?_, fun s opened => ?_⟩
  · have reads : execNotifyRead s = .next (s.hold ⟨.done,
        flagBytes s.port.flags ++ flagBytes s.port.enables ++ assertedByte s.port.alert⟩) := State.onCommand_open opened _
    rw [alertByte_eq] at reads
    exact reads
  · have identifies : execIdentify s = .next (s.hold ⟨.done,
        byte2 partCode ++ byte1 revision ++ Straps.byte s.port.straps⟩) := State.onCommand_open opened _
    rw [Straps.byte_eq] at identifies
    exact identifies

/-- Settles O12: the release of RESETN and the close of the start-up window. -/
theorem releaseOfResetOpensTheWindow : Obligations.ReleaseOfResetOpensTheWindow := by
  refine fun straps s => ⟨fun low => ?_, fun running => ?_, fun closes running window => ⟨_,
    execStartUpWindowClose_open running window, ?_, rfl⟩⟩
  · have releases : execResetnRelease straps s = .next { s with
        inReset := false
        hinge := { s.hinge with nextSampleAt := s.now + ms s.hinge.interval }
        posture := { s.posture with lead := leadOf straps.leadsel }
        frame := { s.frame with periodStart := s.now }
        port := { s.port with straps := straps, startUpCloses := some (s.now + ms startUpWindow) } } :=
      congrArg Host.Outcome.next (if_pos low)
    rw [ms, Nat.mul_comm] at releases
    exact releases
  · exact congrArg Host.Outcome.next (if_neg (Bool.eq_false_iff.1 running))
  · exact Bool.and_eq_true_iff.2 ⟨by rw [running]; rfl, rfl⟩

/-- Settles O13: SOFT RESET beside a pin reset of the same state. -/
theorem softResetKeepsZerosStrapsAndScripts : Obligations.SoftResetKeepsZerosStrapsAndScripts := by
  intro s opened
  have running : s.inReset = false := State.running_of_open opened
  exact ⟨s.pinReset, s.softReset.hold ⟨.done, []⟩, execPinReset_long le_rfl, execSoftReset_done opened, rfl, rfl, rfl, rfl,
    rfl, rfl, rfl, rfl, rfl, rfl, running, rfl, rfl, rfl, rfl, rfl, rfl, rfl, rfl⟩

/-- Settles O11: RESETN pulses by their length, and the reset values block by block. -/
theorem pinResetPutsEveryBlockInItsResetState : Obligations.PinResetPutsEveryBlockInItsResetState := by
  refine fun n s => ⟨fun short => congrArg Host.Outcome.next (if_pos short), fun notShort notLong => ?_, fun long => ?_⟩
  · have judged : execPinReset n s = .next (if Config.shortPulseResets s.shortPulses
        then ({ s with shortPulses := s.shortPulses + 1 } : State).pinReset
        else { s with shortPulses := s.shortPulses + 1 }) := by
      rw [execPinReset, if_neg (Nat.not_lt.2 notShort), if_pos notLong]
    cases taken : Config.shortPulseResets s.shortPulses with
    | true => exact .inr (by rw [taken] at judged; exact judged.trans (execPinReset_long le_rfl).symm)
    | false => exact .inl (by rw [taken] at judged; exact judged)
  · have free (h : Handle) : View.empty.holds h = false := by simp [View.holds, View.empty]
    have black (col row : Nat) : Bank.pixel [] col row = ⟨0, 0, 0⟩ := by simp [Bank.pixel, Bank.row, Colour.black]
    refine ⟨s.pinReset, execPinReset_long long, rfl, rfl, rfl, rfl, rfl, ?_, rfl, rfl, rfl, rfl, rfl, rfl, rfl, rfl, rfl,
      rfl, rfl, rfl, rfl, rfl, rfl, rfl, rfl, rfl, rfl, rfl, rfl, rfl, rfl, rfl, ?_, fun h => ?_, rfl, rfl, rfl, rfl, rfl,
      rfl, black, rfl, rfl, rfl, rfl, rfl, rfl, rfl, rfl, fun h => ⟨?_, ?_⟩, rfl, ?_, ?_, ?_, rfl, rfl, fun i => ?_, rfl, rfl,
      rfl, rfl, rfl⟩
    · intro p listed
      have reset : p = PivotState.reset := by simpa [State.pinReset, State.reset, Hinge.reset] using listed
      rw [reset]
      exact ⟨rfl, rfl, rfl, rfl, rfl, rfl⟩
    · intro x
      cases x <;> rfl
    · have table : s.pinReset.table = Table.reset := rfl
      simp [table, Table.status, Table.publishedHolds, Table.stagedHolds, Table.reset, free]
    · exact Vector.getElem_replicate ..
    · exact Vector.getElem_replicate ..
    · intro x
      cases x <;> exact ⟨rfl, rfl, rfl, rfl⟩
    · intro x
      cases x <;> exact ⟨rfl, rfl, rfl, rfl, rfl, rfl, rfl, rfl, rfl, rfl, rfl, rfl, rfl, rfl, rfl, rfl, rfl, rfl⟩
    · intro x
      cases x <;> exact ⟨rfl, rfl⟩
    · exact Vector.getElem_replicate ..

/-- Settles O60: the reset state has every invariant. -/
theorem resetIsSound : Obligations.ResetIsSound := by
  have panel : (PanelUnit.reset false).Sound := ⟨rfl, rfl, rfl, rfl, rfl, rfl⟩
  obtain ⟨settings, zones, dwell, hinge⟩ := State.inRange_iff.2 ⟨Hinge.reset_inRange, PostureUnit.reset_inRange false,
    show State.reset.lingerTime ≤ 10000 by decide⟩
  obtain ⟨demandA, demandB, held, panels⟩ := (State.panelsInForce_iff (s := State.reset)).2 ⟨fun _ => rfl, fun x =>
    ⟨PostureUnit.reset_inForce false x, by cases x <;> exact panel, by cases x <;> rfl⟩⟩
  obtain ⟨entries, latest⟩ := State.table_sound_iff.1 (show State.reset.table.Sound from Table.reset_sound)
  obtain ⟨records, stackA, stackB⟩ := State.compositionSound_of_reset (s := State.reset) rfl rfl
  exact ⟨settings, zones, dwell, hinge, demandA, demandB, held, entries, latest, FrameStore.reset_sound 0, records, stackA,
    stackB, panels⟩

end

section
/-! PROOFS. Transactions: a packet is judged good by its form, and decode and encode agree: O3, O4. -/

namespace Sys2Proof.Machine

/-! ## The judgement of a packet (R174) -/

/-- The bytes that the check byte of a packet covers, its length byte that of the arguments. -/
def coveredBytes (opcode : Byte) (args : List Byte) : List Byte := opcode :: BitVec.ofNat 8 args.length :: args

theorem length_toNat {args : List Byte} (short : args.length ≤ 60) : (BitVec.ofNat 8 args.length).toNat = args.length := by
  rw [BitVec.toNat_ofNat]
  exact Nat.mod_eq_of_lt (by omega)

/-- A list cut at one of its places. -/
theorem eq_take_getD_drop {l : List Byte} {n : Nat} (inside : n < l.length) :
    l = l.take n ++ l.getD n 0 :: l.drop (n + 1) := by
  rw [List.getD_eq_getElem _ _ inside, ← List.drop_eq_getElem_cons inside, List.take_append_drop]

/-- A packet of at least a kind byte, an opcode and a length byte, judged by the tests of R174 that come after them. -/
theorem judge_cons {opcode len : Byte} {body : List Byte} : judge (0x5A#8 :: opcode :: len :: body) =
    if 60 < len.toNat then .bad .length
    else if body.length ≤ len.toNat then .bad .framing
    else if body.getD len.toNat 0 ≠ crc8 (opcode :: len :: body.take len.toNat) then .bad .check
    else if argLengths opcode = [] then .bad .unknown
    else if len.toNat ∉ argLengths opcode then .bad .length
    else .good opcode (body.take len.toNat) := rfl

theorem judge_of_form {opcode : Byte} {args tail : List Byte} (short : args.length ≤ 60)
    (listed : args.length ∈ argLengths opcode) :
    judge (0x5A#8 :: coveredBytes opcode args ++ crc8 (coveredBytes opcode args) :: tail) = .good opcode args := by
  have named : argLengths opcode ≠ [] := fun none_ => by rw [none_] at listed; nomatch listed
  have taken : (args ++ crc8 (coveredBytes opcode args) :: tail).take args.length = args := List.take_left
  have check : (args ++ crc8 (coveredBytes opcode args) :: tail).getD args.length 0 = crc8 (coveredBytes opcode args) := by
    rw [List.getD_eq_getElem?_getD, List.getElem?_append_right le_rfl, Nat.sub_self]
    rfl
  have long : ¬ (args ++ crc8 (coveredBytes opcode args) :: tail).length ≤ args.length := by
    rw [List.length_append, List.length_cons]
    omega
  have cons : 0x5A#8 :: coveredBytes opcode args ++ crc8 (coveredBytes opcode args) :: tail =
      0x5A#8 :: opcode :: BitVec.ofNat 8 args.length :: (args ++ crc8 (coveredBytes opcode args) :: tail) := rfl
  rw [cons, judge_cons, length_toNat short, if_neg (by omega), if_neg long, taken]
  exact (if_neg (not_not.2 check)).trans ((if_neg named).trans (if_neg (not_not.2 listed)))

theorem form_of_judge {bytes : List Byte} {opcode : Byte} {args : List Byte} (good : judge bytes = .good opcode args) :
    args.length ≤ 60 ∧ args.length ∈ argLengths opcode ∧
      ∃ tail, bytes = 0x5A#8 :: coveredBytes opcode args ++ crc8 (coveredBytes opcode args) :: tail := by
  match bytes with
  | [] => nomatch good
  | [kind] | [kind, _] =>
    simp only [judge] at good
    split at good <;> nomatch good
  | kind :: op :: len :: body =>
    by_cases command : kind = 0x5A#8
    · subst command
      rw [judge_cons] at good
      split at good
      · nomatch good
      next short =>
      split at good
      · nomatch good
      next long =>
      split at good
      · nomatch good
      next check =>
      split at good
      · nomatch good
      split at good
      · nomatch good
      next listed =>
      injection good with opcodes taken
      subst opcodes
      have count : args.length = len.toNat := by
        rw [← taken, List.length_take]
        omega
      have length : BitVec.ofNat 8 args.length = len := by rw [count, BitVec.ofNat_toNat, BitVec.setWidth_eq]
      refine ⟨by omega, by rw [count]; exact not_not.1 listed, body.drop (len.toNat + 1), ?_⟩
      have cut := eq_take_getD_drop (Nat.not_le.1 long)
      rw [taken, not_not.1 check, taken] at cut
      rw [coveredBytes, length, List.cons_append, List.cons_append, List.cons_append, ← cut]
    · simp only [judge, if_pos command] at good
      nomatch good

/-! ## Every opcode's arguments name a command (R179, R181) -/

/-- A row that a COMMAND packet can be: well-formed, and no REPLY READ. -/
def Sent (c : Instr) : Prop := WellFormed c ∧ ∀ n, c ≠ .replyRead n

/-- The arguments name a row that a COMMAND packet can be. -/
def Names (o : Option Instr) : Prop := ∃ c, o = some c ∧ Sent c

section
variable {args : List Byte}

theorem exists_of_length_succ {n : Nat} (length : args.length = n + 1) : ∃ a rest, args = a :: rest ∧ rest.length = n :=
  match args with
  | a :: rest => ⟨a, rest, rfl, Nat.succ.inj length⟩

theorem noArgs_names {i : Instr} (length : args.length ∈ [0]) (sent : Sent i) : Names (noArgs i args) := by
  cases List.length_eq_zero_iff.1 (List.mem_singleton.1 length)
  exact ⟨i, rfl, sent⟩

theorem oneByte_names {f : Byte → Instr} (length : args.length ∈ [1]) (sent : ∀ a, Sent (f a)) : Names (oneByte f args) := by
  obtain ⟨a, rfl⟩ := List.length_eq_one_iff.1 (List.mem_singleton.1 length)
  exact ⟨_, rfl, sent a⟩

theorem twoBytes_names {f : Byte → Byte → Instr} (length : args.length ∈ [2]) (sent : ∀ a b, Sent (f a b)) :
    Names (twoBytes f args) := by
  obtain ⟨a, b, rfl⟩ := List.length_eq_two.1 (List.mem_singleton.1 length)
  exact ⟨_, rfl, sent a b⟩

theorem oneHalf_names {f : Half → Instr} (length : args.length ∈ [2]) (sent : ∀ a, Sent (f a)) : Names (oneHalf f args) := by
  obtain ⟨a, b, rfl⟩ := List.length_eq_two.1 (List.mem_singleton.1 length)
  exact ⟨_, rfl, sent _⟩

theorem twoHalves_names {f : Half → Half → Instr} (length : args.length ∈ [4]) (sent : ∀ a b, Sent (f a b)) :
    Names (twoHalves f args) := by
  match args, List.mem_singleton.1 length with
  | [a, b, c, d], _ => exact ⟨_, rfl, sent _ _⟩

theorem threeHalves_names {f : Half → Half → Half → Instr} (length : args.length ∈ [6]) (sent : ∀ a b c, Sent (f a b c)) :
    Names (threeHalves f args) := by
  match args, List.mem_singleton.1 length with
  | [a, b, c, d, e, g], _ => exact ⟨_, rfl, sent _ _ _⟩

theorem zonesWriteOf_names (length : args.length ∈ [10]) : Names (zonesWriteOf args) := by
  match args, List.mem_singleton.1 length with
  | [_, _, _, _, _, _, _, _, _, _], _ => exact ⟨_, rfl, rfl, nofun⟩

theorem profileWriteOf_names (length : args.length ∈ [9]) : Names (profileWriteOf args) := by
  match args, List.mem_singleton.1 length with
  | [_, _, _, _, _, _, _, _, _], _ => exact ⟨_, rfl, rfl, nofun⟩

theorem slotSetOf_names (length : args.length ∈ [4]) : Names (slotSetOf args) := by
  match args, List.mem_singleton.1 length with
  | [_, _, _, _], _ => exact ⟨_, rfl, rfl, nofun⟩

theorem trackModeOf_names (length : args.length ∈ [2]) : Names (trackModeOf args) := by
  obtain ⟨mode, posture, rfl⟩ := List.length_eq_two.1 (List.mem_singleton.1 length)
  simp only [trackModeOf]
  split
  case h_4 not0 not1 not2 =>
    have above : 3 ≤ mode.toNat := by
      have : mode.toNat ≠ 0 ∧ mode.toNat ≠ 1 ∧ mode.toNat ≠ 2 := ⟨not0, not1, not2⟩
      omega
    exact ⟨_, rfl, decide_eq_true above, nofun⟩
  all_goals exact ⟨_, rfl, rfl, nofun⟩

theorem rawEntryOf_isSome (length : args.length = 28) : ∃ f, rawEntryOf args = some f := by
  match args, length with
  | [_, _, _, _, _, _, _, _, _, _, _, _, _, _, _, _, _, _, _, _, _, _, _, _, _, _, _, _], _ => exact ⟨_, rfl⟩

theorem entryBindOf_names (length : args.length ∈ [28]) : Names ((rawEntryOf args).map .entryBind) := by
  obtain ⟨f, is⟩ := rawEntryOf_isSome (List.mem_singleton.1 length)
  rw [is]
  exact ⟨_, rfl, rfl, nofun⟩

theorem entrySetOf_names (length : args.length ∈ [30]) : Names (entrySetOf args) := by
  obtain ⟨h, rest, rfl, rest29⟩ := exists_of_length_succ (List.mem_singleton.1 length)
  obtain ⟨sel, fields, rfl, fields28⟩ := exists_of_length_succ rest29
  obtain ⟨f, is⟩ := rawEntryOf_isSome fields28
  rw [entrySetOf, is]
  exact ⟨_, rfl, rfl, nofun⟩

theorem rawSteps_length (n : Nat) (l : List Byte) : (rawSteps n l).length = n := by
  induction n generalizing l with
  | zero => rfl
  | succ n ih => exact congrArg (· + 1) (ih _)

theorem scriptWriteOf_names (length : args.length ∈ [1, 15, 29, 43, 57]) : Names (scriptWriteOf args) := by
  have sizes : args.length = 1 ∨ args.length = 15 ∨ args.length = 29 ∨ args.length = 43 ∨ args.length = 57 := by
    simpa using length
  obtain ⟨start, rest, rfl, -⟩ := exists_of_length_succ (args := args) (n := args.length - 1) (by omega)
  rw [List.length_cons] at sizes
  rw [scriptWriteOf, if_pos (by omega)]
  refine ⟨_, rfl, decide_eq_true ?_, nofun⟩
  rw [rawSteps_length]
  omega

end

/-- Arguments of a length that the catalogue allows name a row. -/
theorem commandOf_names {opcode : Byte} {args : List Byte} (listed : args.length ∈ argLengths opcode) :
    Names (commandOf opcode args) := by
  unfold argLengths at listed
  unfold commandOf
  generalize opcode.toNat = number at listed ⊢
  split at listed
  case h_1 | h_2 | h_3 | h_7 | h_9 | h_10 | h_12 | h_18 | h_26 | h_27 | h_29 | h_30 | h_32 =>
    exact noArgs_names listed ⟨rfl, nofun⟩
  case h_4 | h_8 => exact twoHalves_names listed fun _ _ => ⟨rfl, nofun⟩
  case h_5 | h_22 | h_25 | h_40 => exact oneHalf_names listed fun _ => ⟨rfl, nofun⟩
  case h_6 | h_13 => exact threeHalves_names listed fun _ _ _ => ⟨rfl, nofun⟩
  case h_11 => exact zonesWriteOf_names listed
  case h_14 => exact profileWriteOf_names listed
  case h_15 | h_17 | h_21 | h_24 | h_28 | h_31 | h_36 | h_37 | h_38 | h_39 =>
    exact oneByte_names listed fun _ => ⟨rfl, nofun⟩
  case h_16 => exact trackModeOf_names listed
  case h_19 => exact entryBindOf_names listed
  case h_20 => exact entrySetOf_names listed
  case h_23 | h_34 => exact twoBytes_names listed fun _ _ => ⟨rfl, nofun⟩
  case h_33 => exact scriptWriteOf_names listed
  case h_35 => exact slotSetOf_names listed
  case h_41 => nomatch listed

end Sys2Proof.Machine

open Sys2Proof Sys2Proof.Machine

/-- Settles O4: a transaction is one well-formed row, and the form of a good packet. -/
theorem everyTransactionIsOneCommand : Obligations.EveryTransactionIsOneCommand := by
  refine ⟨fun bytes => ?_, fun bytes opcode args => ⟨form_of_judge, ?_⟩⟩
  · by_cases read : bytes.head? = some 0xA5#8
    · exact ⟨.replyRead (bytes.length - 1), if_pos read, rfl, fun _ => read, fun _ => ⟨_, rfl⟩⟩
    · rw [decodeTransaction, if_neg read]
      cases judged : judge bytes with
      | bad e =>
        have error : linkErrorOf bytes = some e := by rw [linkErrorOf, if_neg read, judged]
        exact ⟨_, rfl, by rw [WellFormed, wellFormed, error]; rfl, nofun, fun head => absurd head read⟩
      | good opcode args =>
        obtain ⟨c, is, wellFormed, other⟩ := commandOf_names (form_of_judge judged).2.1
        exact ⟨c, is, wellFormed, fun ⟨n, replyRead⟩ => absurd replyRead (other n), fun head => absurd head read⟩
  · rintro ⟨short, listed, tail, rfl⟩
    exact judge_of_form short listed

namespace Sys2Proof.Machine

/-! ## The arguments of a command are read back as that command (R179, R181) -/

theorem half_halfBytes (h : Half) : half (h.setWidth 8) ((h >>> 8).setWidth 8) = h := by
  apply BitVec.eq_of_getLsbD_eq
  intro i inside
  simp only [half, BitVec.getLsbD_append, BitVec.getLsbD_setWidth, BitVec.getLsbD_ushiftRight]
  by_cases low : i < 8
  · simp [low]
  · simp [low, show i - 8 < 8 by omega, show 8 + (i - 8) = i by omega]

theorem oneHalf_halfBytes (f : Half → Instr) (a : Half) : oneHalf f (halfBytes a) = some (f a) := by
  simp only [oneHalf, halfBytes, half_halfBytes]

theorem twoHalves_halfBytes (f : Half → Half → Instr) (a b : Half) :
    twoHalves f (halfBytes a ++ halfBytes b) = some (f a b) := by
  simp only [twoHalves, halfBytes, List.cons_append, List.nil_append, half_halfBytes]

theorem threeHalves_halfBytes (f : Half → Half → Half → Instr) (a b c : Half) :
    threeHalves f (halfBytes a ++ halfBytes b ++ halfBytes c) = some (f a b c) := by
  simp only [threeHalves, halfBytes, List.cons_append, List.nil_append, half_halfBytes]

theorem zonesWriteOf_halfBytes (a b c d e : Half) :
    zonesWriteOf (halfBytes a ++ halfBytes b ++ halfBytes c ++ halfBytes d ++ halfBytes e) =
      some (.zonesWrite a b c d e) := by
  simp only [zonesWriteOf, halfBytes, List.cons_append, List.nil_append, half_halfBytes]

theorem rawEntryOf_rawEntryBytes (f : RawEntry) : rawEntryOf (rawEntryBytes f) = some f := by
  simp only [rawEntryOf, rawEntryBytes, halfBytes, List.cons_append, List.nil_append, half_halfBytes]

theorem entryBindOf_rawEntryBytes (f : RawEntry) :
    (rawEntryOf (rawEntryBytes f)).map Instr.entryBind = some (.entryBind f) := by
  rw [rawEntryOf_rawEntryBytes, Option.map_some]

theorem rawEntryBytes_length (f : RawEntry) : (rawEntryBytes f).length = 28 := rfl

theorem entrySetOf_rawEntryBytes (h sel : Byte) (f : RawEntry) :
    entrySetOf (h :: sel :: rawEntryBytes f) = some (.entrySet h sel f) := by
  simp only [entrySetOf, rawEntryOf_rawEntryBytes, Option.map_some]

theorem commandOf_entrySet (args : List Byte) : commandOf 0x31#8 args = entrySetOf args := rfl

theorem commandOf_trackMode (args : List Byte) : commandOf 0x25#8 args = trackModeOf args := rfl

theorem trackModeOf_invalid {mode : Byte} (invalid : 3 ≤ mode.toNat) (posture : Byte) :
    trackModeOf [mode, posture] = some (.trackModeInvalidMode mode posture) := by
  simp only [trackModeOf]
  split
  case h_4 => rfl
  all_goals omega

theorem stepsBytes_length (steps : List RawStep) : (steps.flatMap Vector.toList).length = 14 * steps.length := by
  induction steps with
  | nil => rfl
  | cons r rest ih =>
    rw [List.flatMap_cons, List.length_append, ih, Vector.length_toList, List.length_cons]
    omega

theorem rawSteps_stepsBytes (steps : List RawStep) : rawSteps steps.length (steps.flatMap Vector.toList) = steps := by
  induction steps with
  | nil => rfl
  | cons r rest ih =>
    have first : (Vector.ofFn fun i : Fin 14 => (r.toList ++ rest.flatMap Vector.toList).getD i 0) = r := by
      apply Vector.ext
      intro i inside
      rw [Vector.getElem_ofFn, List.getD_eq_getElem?_getD,
        List.getElem?_append_left (by rw [Vector.length_toList]; exact inside)]
      simp [inside]
    have others : (r.toList ++ rest.flatMap Vector.toList).drop 14 = rest.flatMap Vector.toList :=
      List.drop_left' (Vector.length_toList ..)
    rw [List.length_cons, List.flatMap_cons, rawSteps, first, others, ih]

theorem scriptWriteOf_stepsBytes (start : Byte) (steps : List RawStep) :
    scriptWriteOf (start :: steps.flatMap Vector.toList) = some (.scriptWrite start steps) := by
  have count : 14 * steps.length / 14 = steps.length := Nat.mul_div_cancel_left _ (by decide)
  rw [scriptWriteOf, stepsBytes_length, if_pos (Nat.mul_mod_right ..), count, rawSteps_stepsBytes]

/-- The packet of a command has arguments of a length that the catalogue allows, and these name the command. -/
theorem commandBytes_named {c : Instr} (wf : WellFormed c) {opcode : Byte} {args : List Byte}
    (bytes : commandBytes c = some (opcode, args)) :
    args.length ∈ argLengths opcode ∧ args.length ≤ 60 ∧ commandOf opcode args = some c := by
  cases c
  all_goals first | (injection bytes with pair; injection pair with op is; subst op is) | nomatch bytes
  case notifyEnable | zeroWrite => exact ⟨of_decide_eq_true rfl, of_decide_eq_true rfl, twoHalves_halfBytes _ _ _⟩
  case notifyClear | tagRetire | tagFind | panelConfig =>
    exact ⟨of_decide_eq_true rfl, of_decide_eq_true rfl, oneHalf_halfBytes _ _⟩
  case hingeConfig | postureConfig =>
    exact ⟨of_decide_eq_true rfl, of_decide_eq_true rfl, threeHalves_halfBytes _ _ _ _⟩
  case zonesWrite => exact ⟨of_decide_eq_true rfl, of_decide_eq_true rfl, zonesWriteOf_halfBytes _ _ _ _ _⟩
  case entryBind f =>
    exact ⟨by rw [rawEntryBytes_length]; decide, by rw [rawEntryBytes_length]; decide, entryBindOf_rawEntryBytes f⟩
  case entrySet h sel f =>
    have length : (h :: sel :: rawEntryBytes f).length = 30 := by
      rw [List.length_cons, List.length_cons, rawEntryBytes_length]
    exact ⟨by rw [length]; decide, by rw [length]; decide,
      (commandOf_entrySet _).trans (entrySetOf_rawEntryBytes h sel f)⟩
  case trackModeInvalidMode mode posture =>
    exact ⟨of_decide_eq_true rfl, of_decide_eq_true rfl,
      (commandOf_trackMode _).trans (trackModeOf_invalid (of_decide_eq_true wf) posture)⟩
  case scriptWrite start steps =>
    have few : steps.length ≤ 4 := of_decide_eq_true wf
    have length : (start :: steps.flatMap Vector.toList).length = 14 * steps.length + 1 := by
      rw [List.length_cons, stepsBytes_length]
    have listed : 14 * steps.length + 1 ∈ [1, 15, 29, 43, 57] := by
      simp only [List.mem_cons, List.not_mem_nil, or_false]
      omega
    exact ⟨by rw [length]; exact listed, by omega, scriptWriteOf_stepsBytes start steps⟩
  all_goals exact ⟨of_decide_eq_true rfl, of_decide_eq_true rfl, rfl⟩

end Sys2Proof.Machine

open Sys2Proof Sys2Proof.Machine

/-- Settles O3: the packet of a command is good, and names the command. -/
theorem transactionOfACommandDecodesToIt : Obligations.TransactionOfACommandDecodesToIt := by
  intro c bytes wf encoded
  obtain ⟨⟨opcode, args⟩, sent, packet⟩ := Option.map_eq_some_iff.1 encoded
  have notRead : ¬ (commandPacket opcode args).head? = some 0xA5#8 := show ¬ some 0x5A#8 = some 0xA5#8 by decide
  obtain ⟨listed, short, named⟩ := commandBytes_named wf sent
  have good : judge (commandPacket opcode args) = .good opcode args := judge_of_form (tail := []) short listed
  rw [← packet, decodeTransaction, if_neg notRead, good]
  exact named

end

section
/-! PROOFS. Script Memory (chapter 8): SCRIPT WRITE, SLOT SET and the 14 bytes of a step: O51. -/

namespace Sys2Proof.Machine

/-! ## Numbers and their bytes -/

theorem half_toNat (lo hi : Byte) : (half lo hi).toNat = lo.toNat + 256 * hi.toNat := by
  rw [half, BitVec.toNat_append, ← Nat.shiftLeft_add_eq_or_of_lt lo.isLt, Nat.shiftLeft_eq]
  omega

theorem byte1_toNat (b : Byte) : byte1 b.toNat = [b] := by
  rw [byte1, BitVec.ofNat_toNat, BitVec.setWidth_eq]

theorem byte2_half (lo hi : Byte) : byte2 (half lo hi).toNat = [lo, hi] := by
  have low := lo.isLt
  have first : BitVec.ofNat 8 (lo.toNat + 256 * hi.toNat) = lo := by
    apply BitVec.eq_of_toNat_eq
    rw [BitVec.toNat_ofNat]
    omega
  have second : (lo.toNat + 256 * hi.toNat) / 256 = hi.toNat := by omega
  rw [half_toNat, byte2, first, second, BitVec.ofNat_toNat, BitVec.setWidth_eq]

/-! ## Lists cut short and filled up -/

theorem take_ofFn_congr {α : Type} {m n : Nat} {f g : Fin m → α} (same : ∀ k, k.val < n → f k = g k) :
    (List.ofFn f).take n = (List.ofFn g).take n := by
  refine List.ext_getElem (by simp) fun i inside _ => ?_
  rw [List.length_take, List.length_ofFn, Nat.lt_min] at inside
  rw [List.getElem_take, List.getElem_take, List.getElem_ofFn, List.getElem_ofFn]
  exact same _ inside.1

theorem padBytes_take_ofFn {m n : Nat} (f : Fin m → Byte) (fits : n ≤ m) :
    padBytes m ((List.ofFn f).take n) = List.ofFn fun k => if k.val < n then f k else 0#8 := by
  have length : ((List.ofFn f).take n).length = n := by
    rw [List.length_take, List.length_ofFn, Nat.min_eq_left fits]
  have whole : ((List.ofFn f).take n).take m = (List.ofFn f).take n := List.take_of_length_le (by rw [length]; exact fits)
  rw [padBytes, whole, length]
  refine List.ext_getElem (by simp [fits]) fun i inside _ => ?_
  rw [List.getElem_ofFn]
  by_cases low : i < n
  · rw [List.getElem_append_left (by rw [length]; exact low), List.getElem_take, List.getElem_ofFn, if_pos low]
  · rw [List.getElem_append_right (by rw [length]; omega), List.getElem_replicate, if_neg low]

/-! ## The bytes of a step that its kind uses (R179) -/

section
variable (r : RawStep)

/-- The number of arguments or reply bytes that byte 2 of a step names. -/
def stepCount : Nat := (rawByte r 2).toNat

/-- The argument bytes of a SEND. -/
def stepArg (k : Fin 8) : Byte := rawByte r ⟨3 + k.val, by omega⟩

/-- A mask and its value of a READ or POLL. -/
def stepPair (k : Fin 4) : Byte × Byte := (rawByte r ⟨3 + k.val, by omega⟩, rawByte r ⟨7 + k.val, by omega⟩)

/-- Whether a kind with `n` bytes uses byte `i` of its 14. -/
def usedBy (kind n i : Nat) : Bool :=
  i == 0 || match kind with
    | 0 => i < 3 + n
    | 1 => i < 3 + n || (7 ≤ i && i < 7 + n)
    | 2 => i < 3 + n || (7 ≤ i && i < 7 + n) || 11 ≤ i
    | 3 => i ≤ 2
    | 4 => i ≤ 2
    | 5 => i ≤ 1
    | _ => false

/-- The step with the bytes that its kind does not use at zero. -/
def keptStep (kind : Nat) : RawStep := Vector.ofFn fun i => if usedBy kind (stepCount r) i.val then rawByte r i else 0#8

theorem rawByte_keptStep (kind : Nat) (i : Fin 14) :
    rawByte (keptStep r kind) i = if usedBy kind (stepCount r) i.val then rawByte r i else 0#8 :=
  Vector.getElem_ofFn i.isLt

theorem stepBody_send : stepBody r 0 = if stepCount r ≤ 8
    then some (.send (rawByte r 1) ((List.ofFn (stepArg r)).take (stepCount r))) else none := rfl

theorem stepPairs_eq : stepPairs r = if 1 ≤ stepCount r ∧ stepCount r ≤ 4
    then some ((List.ofFn (stepPair r)).take (stepCount r)) else none := rfl

/-! ## What names no step (R154) -/

theorem stepPairs_eq_none : stepPairs r = none ↔ stepCount r = 0 ∨ 4 < stepCount r := by
  rw [stepPairs_eq]
  split
  · next inside => exact ⟨nofun, fun out => absurd inside (by omega)⟩
  · next out => exact ⟨fun _ => by omega, fun _ => rfl⟩

theorem stepBody_send_none : stepBody r 0 = none ↔ 8 < stepCount r := by
  rw [stepBody_send]
  split
  · next few => exact ⟨nofun, fun many => absurd few (Nat.not_le.2 many)⟩
  · next many => exact ⟨fun _ => Nat.not_le.1 many, fun _ => rfl⟩

theorem stepBody_read_none : stepBody r 1 = none ↔ stepCount r = 0 ∨ 4 < stepCount r :=
  Option.map_eq_none_iff.trans (stepPairs_eq_none r)

theorem stepBody_poll_none : stepBody r 2 = none ↔ (stepCount r = 0 ∨ 4 < stepCount r) ∨ (rawByte r 11).toNat = 0 ∨
    (half (rawByte r 12) (rawByte r 13)).toNat = 0 ∨ 2000 < (half (rawByte r 12) (rawByte r 13)).toNat := by
  simp only [stepBody]
  split
  · next inside =>
    rw [Option.map_eq_none_iff, stepPairs_eq_none]
    omega
  · next out => exact ⟨fun _ => by omega, fun _ => rfl⟩

theorem stepBody_wait_none : stepBody r 3 = none ↔ (half (rawByte r 1) (rawByte r 2)).toNat = 0 ∨
    2000 < (half (rawByte r 1) (rawByte r 2)).toNat := by
  simp only [stepBody]
  split
  · next inside => exact ⟨nofun, fun out => absurd inside (by omega)⟩
  · next out => exact ⟨fun _ => by omega, fun _ => rfl⟩

theorem stepBody_line_none : stepBody r 4 = none ↔ 1 < (rawByte r 1).toNat ∨ 1 < (rawByte r 2).toNat := by
  simp only [stepBody]
  split
  case h_5 none_ =>
    refine ⟨fun _ => ?_, fun _ => rfl⟩
    by_contra both
    obtain ⟨which | which, level | level⟩ : ((rawByte r 1).toNat = 0 ∨ (rawByte r 1).toNat = 1) ∧
      ((rawByte r 2).toNat = 0 ∨ (rawByte r 2).toNat = 1) := by omega
    all_goals simp_all
  all_goals next which level => exact ⟨nofun, fun out => absurd out (by omega)⟩

theorem stepOf_eq_none : stepOf r = none ↔ (rawByte r 0).toNat / 8 % 16 ≠ 0 ∨ stepBody r ((rawByte r 0).toNat % 8) = none := by
  simp only [stepOf]
  split
  · next clear => rw [Option.map_eq_none_iff, or_iff_right (not_not.2 clear)]
  · next set => exact ⟨fun _ => .inl set, fun _ => rfl⟩

end

/-! ## A step read back as the bytes written (R179) -/

/-- The kept bytes hold the step body, and are its bytes. -/
structure KeptAs (r : RawStep) (kind : Nat) (b : StepBody) : Prop where
  body : stepBody (keptStep r kind) kind = some b
  number : b.kind.number = kind
  bytes : b.bytes = List.ofFn fun i : Fin 13 => rawByte (keptStep r kind) i.succ

section
variable {r : RawStep} {kind : Nat} {b : StepBody}

theorem rawByte_kept_of_used {i : Fin 14} (used : usedBy kind (stepCount r) i.val = true) :
    rawByte (keptStep r kind) i = rawByte r i := by
  rw [rawByte_keptStep, if_pos used]

theorem rawByte_kept_of_unused {i : Fin 14} (unused : usedBy kind (stepCount r) i.val = false) :
    rawByte (keptStep r kind) i = 0#8 := by
  rw [rawByte_keptStep, if_neg (Bool.eq_false_iff.1 unused)]

theorem stepArg_kept (k : Fin 8) : stepArg (keptStep r 0) k = if k.val < stepCount r then stepArg r k else 0#8 := by
  have used : usedBy 0 (stepCount r) (3 + k.val) = decide (k.val < stepCount r) := by simp [usedBy]
  rw [stepArg, rawByte_keptStep, used]
  simp only [decide_eq_true_iff]
  rfl

theorem stepBody_send_kept (is : stepBody r 0 = some b) : KeptAs r 0 b := by
  have code : rawByte (keptStep r 0) 1 = rawByte r 1 :=
    rawByte_kept_of_used (decide_eq_true (show 1 < 3 + stepCount r by omega))
  have count : rawByte (keptStep r 0) 2 = rawByte r 2 :=
    rawByte_kept_of_used (decide_eq_true (show 2 < 3 + stepCount r by omega))
  have counts : stepCount (keptStep r 0) = stepCount r := congrArg BitVec.toNat count
  rw [stepBody_send] at is
  split at is
  case isFalse => nomatch is
  next few =>
  cases is
  refine ⟨?_, rfl, ?_⟩
  · rw [stepBody_send, counts, if_pos few, code,
      take_ofFn_congr (g := stepArg r) fun k inside => by rw [stepArg_kept, if_pos inside]]
  · have length : ((List.ofFn (stepArg r)).take (stepCount r)).length = stepCount r := by
      rw [List.length_take, List.length_ofFn, Nat.min_eq_left few]
    have kept : (List.ofFn fun k : Fin 8 => if k.val < stepCount r then stepArg r k else 0#8) =
        List.ofFn (stepArg (keptStep r 0)) := congrArg List.ofFn (funext fun k => (stepArg_kept k).symm)
    have unused (i : Fin 14) (high : 11 ≤ i.val) : rawByte (keptStep r 0) i = 0#8 :=
      rawByte_kept_of_unused (by simp [usedBy]; omega)
    rw [StepBody.bytes, length, padBytes_take_ofFn _ few, kept, show byte1 (stepCount r) = [rawByte r 2] from byte1_toNat _,
      ← code, ← count]
    have tail : (List.ofFn fun i : Fin 13 => rawByte (keptStep r 0) i.succ) =
        rawByte (keptStep r 0) 1 :: [rawByte (keptStep r 0) 2] ++ List.ofFn (stepArg (keptStep r 0)) ++
          [rawByte (keptStep r 0) 11, rawByte (keptStep r 0) 12, rawByte (keptStep r 0) 13] := rfl
    rw [tail, unused 11 (by decide), unused 12 (by decide), unused 13 (by decide)]
    rfl

/-- The masks and values of READ and POLL stand in the kept bytes. -/
theorem stepPair_kept (pairs : kind = 1 ∨ kind = 2) (few : stepCount r ≤ 4) (k : Fin 4) :
    stepPair (keptStep r kind) k = if k.val < stepCount r then stepPair r k else (0#8, 0#8) := by
  have inside := k.isLt
  have mask : usedBy kind (stepCount r) (3 + k.val) = decide (k.val < stepCount r) := by
    rw [Bool.eq_iff_iff]
    rcases pairs with rfl | rfl <;> simp [usedBy] <;> omega
  have value : usedBy kind (stepCount r) (7 + k.val) = decide (k.val < stepCount r) := by
    rw [Bool.eq_iff_iff]
    rcases pairs with rfl | rfl <;> simp [usedBy] <;> omega
  rw [stepPair, rawByte_keptStep, rawByte_keptStep, mask, value]
  by_cases inside : k.val < stepCount r <;> simp [inside, stepPair]

theorem stepPairs_kept (pairs : kind = 1 ∨ kind = 2) (given : 1 ≤ stepCount r ∧ stepCount r ≤ 4) :
    stepPairs (keptStep r kind) = stepPairs r := by
  have count : rawByte (keptStep r kind) 2 = rawByte r 2 :=
    rawByte_kept_of_used (by rcases pairs with rfl | rfl <;> simp [usedBy] <;> omega)
  have counts : stepCount (keptStep r kind) = stepCount r := congrArg BitVec.toNat count
  rw [stepPairs_eq, stepPairs_eq, counts, if_pos given, if_pos given,
    take_ofFn_congr (g := stepPair r) fun k inside => by rw [stepPair_kept pairs given.2, if_pos inside]]

theorem pairBytes_kept (pairs : kind = 1 ∨ kind = 2) (few : stepCount r ≤ 4) (code : Byte) :
    pairBytes code ((List.ofFn (stepPair r)).take (stepCount r)) = code :: [rawByte r 2] ++
      (List.ofFn fun k => (stepPair (keptStep r kind) k).1) ++ List.ofFn fun k => (stepPair (keptStep r kind) k).2 := by
  have length : ((List.ofFn (stepPair r)).take (stepCount r)).length = stepCount r := by
    rw [List.length_take, List.length_ofFn, Nat.min_eq_left few]
  have masks : (List.ofFn fun k : Fin 4 => if k.val < stepCount r then (Prod.fst ∘ stepPair r) k else 0#8) =
      List.ofFn fun k => (stepPair (keptStep r kind) k).1 := by
    refine congrArg List.ofFn (funext fun k => ?_)
    rw [stepPair_kept pairs few]
    split <;> rfl
  have values : (List.ofFn fun k : Fin 4 => if k.val < stepCount r then (Prod.snd ∘ stepPair r) k else 0#8) =
      List.ofFn fun k => (stepPair (keptStep r kind) k).2 := by
    refine congrArg List.ofFn (funext fun k => ?_)
    rw [stepPair_kept pairs few]
    split <;> rfl
  rw [pairBytes, length, List.map_take, List.map_take, List.map_ofFn, List.map_ofFn, padBytes_take_ofFn _ few,
    padBytes_take_ofFn _ few, masks, values, show byte1 (stepCount r) = [rawByte r 2] from byte1_toNat _]

theorem keptBytes_pairs : (List.ofFn fun i : Fin 13 => rawByte (keptStep r kind) i.succ) =
    rawByte (keptStep r kind) 1 :: [rawByte (keptStep r kind) 2] ++
      (List.ofFn fun k => (stepPair (keptStep r kind) k).1) ++ (List.ofFn fun k => (stepPair (keptStep r kind) k).2) ++
      [rawByte (keptStep r kind) 11, rawByte (keptStep r kind) 12, rawByte (keptStep r kind) 13] := rfl

theorem stepBody_read_kept (is : stepBody r 1 = some b) : KeptAs r 1 b := by
  have code : rawByte (keptStep r 1) 1 = rawByte r 1 := rawByte_kept_of_used (by simp [usedBy]; omega)
  have count : rawByte (keptStep r 1) 2 = rawByte r 2 := rawByte_kept_of_used (by simp [usedBy]; omega)
  obtain ⟨ps, pairs, rfl⟩ := Option.map_eq_some_iff.1 is
  have given := pairs
  rw [stepPairs_eq] at given
  split at given
  case isFalse => nomatch given
  next inside =>
  cases given
  have unused (i : Fin 14) (high : 11 ≤ i.val) : rawByte (keptStep r 1) i = 0#8 :=
    rawByte_kept_of_unused (by simp [usedBy]; omega)
  refine ⟨?_, rfl, ?_⟩
  · have body : stepBody (keptStep r 1) 1 = (stepPairs (keptStep r 1)).map fun ps => .read (rawByte (keptStep r 1) 1) ps := rfl
    rw [body, stepPairs_kept (.inl rfl) inside, pairs, code]
    rfl
  · rw [StepBody.bytes, pairBytes_kept (.inl rfl) inside.2, keptBytes_pairs, unused 11 (by decide), unused 12 (by decide),
      unused 13 (by decide), code, count]
    rfl

theorem stepBody_poll_eq : stepBody r 2 = if 1 ≤ (rawByte r 11).toNat ∧ 1 ≤ (half (rawByte r 12) (rawByte r 13)).toNat ∧
      (half (rawByte r 12) (rawByte r 13)).toNat ≤ 2000
    then (stepPairs r).map fun ps => .poll (rawByte r 1) ps (rawByte r 11).toNat (half (rawByte r 12) (rawByte r 13)).toNat
    else none := rfl

theorem stepBody_poll_kept (is : stepBody r 2 = some b) : KeptAs r 2 b := by
  have code : rawByte (keptStep r 2) 1 = rawByte r 1 := rawByte_kept_of_used (by simp [usedBy]; omega)
  have count : rawByte (keptStep r 2) 2 = rawByte r 2 := rawByte_kept_of_used (by simp [usedBy]; omega)
  have timing (i : Fin 14) (high : 11 ≤ i.val) : rawByte (keptStep r 2) i = rawByte r i :=
    rawByte_kept_of_used (by simp [usedBy]; omega)
  rw [stepBody_poll_eq] at is
  split at is
  case isFalse => nomatch is
  next times =>
  obtain ⟨ps, pairs, rfl⟩ := Option.map_eq_some_iff.1 is
  have given := pairs
  rw [stepPairs_eq] at given
  split at given
  case isFalse => nomatch given
  next inside =>
  cases given
  refine ⟨?_, rfl, ?_⟩
  · rw [stepBody_poll_eq, timing 11 (by decide), timing 12 (by decide), timing 13 (by decide), if_pos times,
      stepPairs_kept (.inr rfl) inside, pairs, code]
    rfl
  · rw [StepBody.bytes, pairBytes_kept (.inr rfl) inside.2, keptBytes_pairs, timing 11 (by decide), timing 12 (by decide),
      timing 13 (by decide), code, count, byte1_toNat, byte2_half]
    rfl

/-- The bytes after the kind byte, one by one. -/
theorem keptBytes_each : (List.ofFn fun i : Fin 13 => rawByte (keptStep r kind) i.succ) =
    [rawByte (keptStep r kind) 1, rawByte (keptStep r kind) 2] ++
      List.ofFn fun i : Fin 11 => rawByte (keptStep r kind) i.succ.succ.succ := rfl

theorem keptBytes_of_two (short : ∀ i : Fin 14, 3 ≤ i.val → usedBy kind (stepCount r) i.val = false) :
    (List.ofFn fun i : Fin 13 => rawByte (keptStep r kind) i.succ) =
      padBytes 13 [rawByte (keptStep r kind) 1, rawByte (keptStep r kind) 2] := by
  have zero : (fun i : Fin 11 => rawByte (keptStep r kind) i.succ.succ.succ) = fun _ => 0#8 :=
    funext fun i => rawByte_kept_of_unused (short _ (by simp))
  rw [keptBytes_each, zero]
  rfl

theorem stepBody_wait_kept (is : stepBody r 3 = some b) : KeptAs r 3 b := by
  have first : rawByte (keptStep r 3) 1 = rawByte r 1 := rawByte_kept_of_used rfl
  have second : rawByte (keptStep r 3) 2 = rawByte r 2 := rawByte_kept_of_used rfl
  have same : stepBody (keptStep r 3) 3 = stepBody r 3 := by simp only [stepBody, first, second]
  have bytes : b.kind.number = 3 ∧ b.bytes = padBytes 13 [rawByte r 1, rawByte r 2] := by
    simp only [stepBody] at is
    split at is
    case isFalse => nomatch is
    cases is
    exact ⟨rfl, by rw [StepBody.bytes, byte2_half]⟩
  refine ⟨same.trans is, bytes.1, ?_⟩
  rw [bytes.2, keptBytes_of_two (by simp [usedBy]; omega), first, second]

theorem stepBody_line_kept (is : stepBody r 4 = some b) : KeptAs r 4 b := by
  have first : rawByte (keptStep r 4) 1 = rawByte r 1 := rawByte_kept_of_used rfl
  have second : rawByte (keptStep r 4) 2 = rawByte r 2 := rawByte_kept_of_used rfl
  have same : stepBody (keptStep r 4) 4 = stepBody r 4 := by simp only [stepBody, first, second]
  have bytes : b.kind.number = 4 ∧ b.bytes = padBytes 13 (byte1 (rawByte r 1).toNat ++ byte1 (rawByte r 2).toNat) := by
    simp only [stepBody] at is
    split at is
    case h_5 => nomatch is
    all_goals
      next which level =>
      cases is
      exact ⟨rfl, by rw [which, level]; rfl⟩
  refine ⟨same.trans is, bytes.1, ?_⟩
  rw [bytes.2, keptBytes_of_two (by simp [usedBy]; omega), first, second, byte1_toNat, byte1_toNat]
  rfl

theorem stepBody_goto_kept (is : stepBody r 5 = some b) : KeptAs r 5 b := by
  have target : rawByte (keptStep r 5) 1 = rawByte r 1 := rawByte_kept_of_used rfl
  have zero : rawByte (keptStep r 5) 2 = 0#8 := rawByte_kept_of_unused rfl
  cases is
  refine ⟨by simp only [stepBody, target], rfl, ?_⟩
  rw [StepBody.bytes, keptBytes_of_two (by simp [usedBy]; omega), target, zero]
  rw [show byte1 (indexOfByte (rawByte r 1)).val = [rawByte r 1] from byte1_toNat _]
  rfl

theorem stepBody_finish_kept (is : stepBody r 6 = some b) : KeptAs r 6 b := by
  have zero (i : Fin 14) (high : 1 ≤ i.val) : rawByte (keptStep r 6) i = 0#8 :=
    rawByte_kept_of_unused (by simp [usedBy]; omega)
  cases is
  refine ⟨rfl, rfl, ?_⟩
  rw [StepBody.bytes, keptBytes_of_two (by simp [usedBy]; omega), zero 1 (by decide), zero 2 (by decide)]
  rfl

/-- Every step body that bytes hold is held by the kept bytes, and has them as its own. -/
theorem stepBody_kept (is : stepBody r kind = some b) : KeptAs r kind b := by
  match kind, is with
  | 0, is => exact stepBody_send_kept is
  | 1, is => exact stepBody_read_kept is
  | 2, is => exact stepBody_poll_kept is
  | 3, is => exact stepBody_wait_kept is
  | 4, is => exact stepBody_line_kept is
  | 5, is => exact stepBody_goto_kept is
  | 6, is => exact stepBody_finish_kept is

end

/-! ## The whole step -/

/-- The bytes that a kind uses, as R179 lists them. -/
def Used (kind n i : Nat) : Prop := i = 0 ∨ match kind with
  | 0 => i < 3 + n
  | 1 => i < 3 + n ∨ (7 ≤ i ∧ i < 7 + n)
  | 2 => i < 3 + n ∨ (7 ≤ i ∧ i < 7 + n) ∨ 11 ≤ i
  | 3 => i ≤ 2
  | 4 => i ≤ 2
  | 5 => i ≤ 1
  | _ => False

theorem usedBy_iff {kind n i : Nat} : usedBy kind n i = true ↔ Used kind n i := by
  unfold usedBy Used
  rw [Bool.or_eq_true, beq_iff_eq]
  match kind with
  | 0 | 1 | 2 | 3 | 4 | 5 => simp [or_assoc]
  | n + 6 => simp

theorem stepBody_eq_none (r : RawStep) {kind : Nat} (small : kind < 8) : stepBody r kind = none ↔
    kind = 7 ∨ (kind = 0 ∧ 8 < stepCount r) ∨ ((kind = 1 ∨ kind = 2) ∧ (stepCount r = 0 ∨ 4 < stepCount r)) ∨
      (kind = 2 ∧ ((rawByte r 11).toNat = 0 ∨ (half (rawByte r 12) (rawByte r 13)).toNat = 0 ∨
        2000 < (half (rawByte r 12) (rawByte r 13)).toNat)) ∨
      (kind = 3 ∧ ((half (rawByte r 1) (rawByte r 2)).toNat = 0 ∨ 2000 < (half (rawByte r 1) (rawByte r 2)).toNat)) ∨
      (kind = 4 ∧ (1 < (rawByte r 1).toNat ∨ 1 < (rawByte r 2).toNat)) := by
  match kind with
  | 0 => simp [stepBody_send_none]
  | 1 => simp [stepBody_read_none]
  | 2 => simp [stepBody_poll_none]
  | 3 => simp [stepBody_wait_none]
  | 4 => simp [stepBody_line_none]
  | 5 => simp [stepBody]
  | 6 => simp [stepBody]
  | 7 => simp [stepBody]

theorem toList_eq_rawBytes (r : RawStep) :
    r.toList = rawByte r 0 :: List.ofFn fun i : Fin 13 => rawByte r i.succ := by
  rw [← List.ofFn_succ]
  refine List.ext_getElem (by rw [Vector.length_toList, List.length_ofFn]) fun i _ _ => ?_
  rw [List.getElem_ofFn, Vector.getElem_toList]
  rfl

/-- A step that can be written is held by its kept bytes, and reads back as them. -/
theorem stepOf_kept {r : RawStep} {st : Step} (is : stepOf r = some st) :
    st.bytes = (keptStep r ((rawByte r 0).toNat % 8)).toList ∧ stepOf (keptStep r ((rawByte r 0).toNat % 8)) = some st := by
  have given := is
  simp only [stepOf] at given
  split at given
  case isFalse => nomatch given
  next clear =>
  obtain ⟨b, body, rfl⟩ := Option.map_eq_some_iff.1 given
  have kept := stepBody_kept body
  have head : rawByte (keptStep r ((rawByte r 0).toNat % 8)) 0 = rawByte r 0 := rawByte_kept_of_used (usedBy_iff.2 (.inl rfl))
  constructor
  · have small := (rawByte r 0).isLt
    have number : b.kind.number + (if decide (128 ≤ (rawByte r 0).toNat) = true then 128 else 0) = (rawByte r 0).toNat := by
      rw [kept.number]
      simp only [decide_eq_true_iff]
      split <;> omega
    rw [Step.bytes, number, byte1_toNat, kept.bytes, toList_eq_rawBytes, head]
    rfl
  · simp only [stepOf, head, if_pos clear, kept.body]
    rfl

/-! ## Script Memory after a write (R156, R157) -/

theorem writeSteps_outside {start : Nat} {new : List Step} {mem : Vector Step 256} {i : StepIndex}
    (outside : i.val < start ∨ start + new.length ≤ i.val) : (writeSteps start new mem)[i] = mem[i] := by
  rw [writeSteps]
  simp only [Fin.getElem_fin, Vector.getElem_ofFn]
  split
  · rw [List.getD_eq_default _ _ (by omega)]
  · rfl

theorem writeSteps_inside {start k : Nat} {new : List Step} {mem : Vector Step 256} {i : StepIndex} {st : Step}
    (at_ : i.val = start + k) (given : new[k]? = some st) : (writeSteps start new mem)[i] = st := by
  rw [writeSteps]
  simp only [Fin.getElem_fin, Vector.getElem_ofFn]
  have place : i.val - start = k := by omega
  rw [if_pos (by omega), List.getD_eq_getElem?_getD, place, given]
  rfl

theorem ScriptMemory.slots_setSlot (m : ScriptMemory) (x y : Panel) (slot sl : ScriptSlot) (i : Option StepIndex) :
    ((m.setSlot x slot i).slots y).get sl = if y = x ∧ sl = slot then i else (m.slots y).get sl := by
  by_cases same : y = x
  · subst same
    cases y <;> cases slot <;> cases sl <;> rfl
  · have other : (m.setSlot x slot i).slots y = m.slots y := by
      cases x <;> cases y <;> first | rfl | exact absurd rfl same
    rw [other, if_neg fun both => same both.1]

end Sys2Proof.Machine

open Sys2Proof Sys2Proof.Machine

/-- Settles O51: SCRIPT WRITE, SLOT SET, and the bytes of a step. -/
theorem scriptMemoryIsWrittenWhole : Obligations.ScriptMemoryIsWrittenWhole := by
  refine ⟨fun start raw s opened => ?_, fun bx bs bp bi s opened => ⟨execSlotSet_range opened, fun x slot panel slotted small =>
    ?_⟩, fun r => ?_⟩
  · intro invalid
    refine ⟨execScriptWrite_range opened, fun valid running => ?_, fun valid idle => ?_⟩
    · obtain ⟨new, given⟩ := stepsOf_of_valid valid
      exact execScriptWrite_busy opened valid given running
    · obtain ⟨new, given⟩ := stepsOf_of_valid valid
      obtain ⟨length, each⟩ := stepsOf_eq_some given
      refine ⟨_, execScriptWrite_done opened valid given idle, fun i => ⟨fun outside => ?_, fun k r at_ place => ?_⟩⟩
      · exact writeSteps_outside (by rw [length]; exact outside)
      · have inside : k < new.length := by
          rw [length]
          exact (List.getElem?_eq_some_iff.1 at_).1
        have step : new[k]? = some new[k] := List.getElem?_eq_getElem inside
        rw [← each k r at_, step, writeSteps_inside place step]
  · obtain ⟨present, presence⟩ : ∃ present, boolOfByte bp = some present := by
      rw [← Option.ne_none_iff_exists', Ne, boolOfByte_eq_none]
      omega
    refine ⟨execSlotSet_busy opened panel slotted presence, fun idle => ⟨_,
      execSlotSet_done opened panel slotted presence idle, ScriptMemory.setSlot_steps .., fun y sl => ?_⟩⟩
    have byte : (if present then some (indexOfByte bi) else none) = if bp.toNat = 1 then some bi.toFin else none := by
      have number := boolOfByte_eq_some.1 presence
      cases present <;> rw [number] <;> rfl
    rw [ScriptMemory.slots_setSlot, byte]
  · intro b kind wide d
    have small : kind < 8 := Nat.mod_lt _ (by decide)
    refine ⟨?_, fun st is => ?_⟩
    · have none_ := stepBody_eq_none r small
      rw [half_toNat, half_toNat] at none_
      exact (stepOf_eq_none r).trans (or_congr_right none_)
    · intro used
      obtain ⟨bytes, same⟩ := stepOf_kept is
      refine ⟨keptStep r kind, bytes, same, fun i => ⟨fun uses => ?_, fun unused => ?_⟩⟩
      · exact rawByte_kept_of_used (usedBy_iff.2 uses)
      · exact rawByte_kept_of_unused (Bool.eq_false_iff.2 fun uses => unused (usedBy_iff.1 uses))

end

section
/-! PROOFS. The reads without operands: the data each answers with, field by field (R20, R22, R28, R46, R86, R105,
R127): O52. -/

namespace Sys2Proof.Machine

/-! ## The bytes of fields -/

/-- Two's complement in 16 bits is the remainder modulo 65536. -/
theorem deltaBytes_eq : deltaBytes = fun d => byte2 (d % 65536).toNat := by
  funext d
  rw [deltaBytes, BitVec.toNat_ofInt]
  rfl

theorem angleFaultsByte_eq (f : AngleFaults) :
    angleFaultsByte f = [BitVec.ofNat 8 (f.lostL.toNat + 2 * f.lostR.toNat + 4 * f.skew.toNat)] := by
  obtain ⟨lostL, lostR, skew⟩ := f
  cases lostL <;> cases lostR <;> cases skew <;> rfl

theorem onOffByte_eq (b : Bool) : onOffByte b = [if b then 0#8 else 1#8] := by cases b <;> rfl

theorem assertedByte_eq (b : Bool) : assertedByte b = [if b then 0#8 else 1#8] := by cases b <;> rfl

theorem byte1_flag (b : Bool) : byte1 (if b then 1 else 0) = [if b then 1#8 else 0#8] := by cases b <;> rfl

theorem postureByte_eq (p : Option Posture) :
    postureByte p = [match p with | some p => BitVec.ofNat 8 p.number.val | none => 6#8] := by
  cases p <;> rfl

theorem panelByte_eq (x : Panel) : panelByte x = [match x with | .a => 0#8 | .b => 1#8] := by cases x <;> rfl

/-! ## The plain reads -/

section
variable {s : State} (opened : s.portOpen = true)
include opened

theorem execHingeRead_done : execHingeRead s = .next (s.hold ⟨.done, s.hinge.readData⟩) := State.onCommand_open opened _

theorem execZonesRead_done : execZonesRead s = .next (s.hold ⟨.done,
    s.posture.zones.bytes ++ optional 10 Zones.bytes s.posture.pendingZones⟩) := State.onCommand_open opened _

theorem execPostureRead_done : execPostureRead s = .next (s.hold ⟨.done, s.posture.readData⟩) :=
  State.onCommand_open opened _

theorem execFrameStatus_done : execFrameStatus s = .next (s.hold ⟨.done, s.frameStatusData⟩) :=
  State.onCommand_open opened _

theorem execReflowRead_done : execReflowRead s = .next (s.hold ⟨.done,
    counted handleByte s.comp.reflow ++ genBytes s.comp.stackA.context.gen⟩) := State.onCommand_open opened _

theorem execLayersRead_done : execLayersRead s = .next (s.hold ⟨.done,
    layersData s.panelA s.comp.stackA ++ layersData s.panelB s.comp.stackB⟩) := State.onCommand_open opened _

theorem execNotifyRead_done : execNotifyRead s = .next (s.hold ⟨.done,
    flagBytes s.port.flags ++ flagBytes s.port.enables ++ assertedByte s.port.alert⟩) := State.onCommand_open opened _

theorem execIdentify_done : execIdentify s = .next (s.hold ⟨.done,
    byte2 partCode ++ byte1 revision ++ Straps.byte s.port.straps⟩) := State.onCommand_open opened _

/-- ZERO READ: a capture that has only been asked for, and none, have counted nothing. -/
theorem execZeroRead_done {n : Nat}
    (counts : (match s.hinge.capture with | some c => c.counted | none => 0) = n) :
    execZeroRead s = .next (s.hold ⟨.done, perPivot s.hinge (fun p => byte2 p.zero.toNat) ++
      polarityByte s.port.straps.pola ++ polarityByte s.port.straps.polb ++
      byteOfBool s.hinge.capture.isSome ++ byte1 n ++ s.hinge.lastResult.byte⟩) :=
  counts ▸ State.onCommand_open opened _

theorem exec_plainRead {c : Instr} (plain : isPlainRead c = true) :
    ∃ data : List Byte, exec c s = .next (s.hold ⟨.done, data⟩) := by
  simp only [isPlainRead, decide_eq_true_eq] at plain
  rcases plain with rfl | rfl | rfl | rfl | rfl | rfl | rfl | rfl | rfl
  · exact ⟨_, execIdentify_done opened⟩
  · exact ⟨_, execNotifyRead_done opened⟩
  · exact ⟨_, execHingeRead_done opened⟩
  · exact ⟨_, execZeroRead_done opened rfl⟩
  · exact ⟨_, execZonesRead_done opened⟩
  · exact ⟨_, execPostureRead_done opened⟩
  · exact ⟨_, execReflowRead_done opened⟩
  · exact ⟨_, execLayersRead_done opened⟩
  · exact ⟨_, execFrameStatus_done opened⟩

end

/-- The samples a capture has counted, in its three forms. -/
theorem counted_of_capture {capture : Option Capture} {n : Nat} : capture = none ∧ n = 0 ∨ capture = some .started ∧ n = 0 ∨
      (∃ l r, capture = some (.counting n l r)) → (match capture with | some c => c.counted | none => 0) = n := by
  intro form
  rcases form with ⟨rfl, rfl⟩ | ⟨rfl, rfl⟩ | ⟨l, r, rfl⟩ <;> rfl

/-- The fields that are given for each pivot stand one behind the other (R22). -/
theorem Hinge.readData_eq_flatten (h : Hinge) : h.readData = [angleStateByte h.angle, optional 2 byte2 h.angle.reported?,
    optional 4 byte4 h.angle.filter?, optional 2 byte2 h.instant, angleFaultsByte h.angle.faults, byte1 h.angle.clean,
    byteOfBool h.seedPending, optional 2 (fun r : RawCount => byte2 r.toNat) h.left.lastGood,
    optional 2 (fun r : RawCount => byte2 r.toNat) h.right.lastGood, optional 2 deltaBytes h.left.delta,
    optional 2 deltaBytes h.right.delta, byteOfBool h.left.clamped, byteOfBool h.right.clamped,
    countBytes h.left.missRun, countBytes h.right.missRun, optional 2 byte2 h.skew, countBytes h.skewRun,
    byte2 h.interval, byte2 h.shift, byte2 h.skewLimit, countBytes h.samples, countBytes h.left.missTotal,
    countBytes h.right.missTotal, countBytes h.overLimit, countBytes h.faultEntries].flatten := by
  delta Hinge.readData
  simp only [perPivot, List.flatten_cons, List.flatten_nil, List.append_assoc, List.append_nil]

theorem answers_of_eq {c : Instr} {s : State} {data : List Byte} {fields : List (List Byte)}
    (reads : exec c s = .next (s.hold ⟨.done, data⟩)) (same : data = fields.flatten) :
    exec c s = .next (s.hold ⟨.done, fields.flatten⟩) := same ▸ reads

end Sys2Proof.Machine
open Sys2Proof Sys2Proof.Machine

/-- Settles O52: each plain read's data, field by field. -/
theorem plainReadsAnswerDone : Obligations.PlainReadsAnswerDone := by
  refine fun s opened => ⟨fun c plain => exec_plainRead opened plain, ?_, fun n counts => ?_, ?_, ?_, ?_, ?_, ?_⟩
  · refine answers_of_eq (execHingeRead_done opened) ?_
    rw [Hinge.readData_eq_flatten, deltaBytes_eq, angleFaultsByte_eq]
    cases s.hinge.angle <;> rfl
  · refine answers_of_eq (execZeroRead_done opened (counted_of_capture counts)) ?_
    simp only [perPivot, List.flatten_cons, List.flatten_nil, List.append_assoc, List.append_nil, polarityByte,
      byte1_flag]
    cases s.hinge.lastResult <;> rfl
  · refine answers_of_eq (execZonesRead_done opened) ?_
    cases s.posture.pendingZones <;> rfl
  · refine answers_of_eq (execPostureRead_done opened) ?_
    simp only [PostureUnit.readData, List.flatten_cons, List.flatten_nil, List.append_assoc, List.append_nil,
      postureByte_eq, panelByte_eq, onOffByte_eq]
    cases s.posture.mode <;> cases s.posture.report <;> cases s.posture.dwelling <;> rfl
  · refine answers_of_eq (execFrameStatus_done opened) ?_
    simp only [State.frameStatusData, List.flatten_cons, List.flatten_nil, List.append_assoc, List.append_nil,
      byte1_flag]
    cases s.frame.rate <;> cases s.frame.captureState <;> cases s.table.staged <;> rfl
  · refine answers_of_eq (execReflowRead_done opened) ?_
    rw [counted_handleByte, List.cons_append]
    rfl
  · refine answers_of_eq (execLayersRead_done opened) ?_
    simp only [layersData, List.flatten_cons, List.flatten_nil, List.append_assoc, List.append_nil, List.cons_append,
      List.nil_append, counted_handleByte]
    rfl

end

section
/-! PROOFS. The reads that name a record: RANGE, ABSENT, or the record's fields (R37, R65, R66, R110, R150, R158): O53. -/

namespace Sys2Proof.Machine

/-! ## The bytes of enumerations, in the orders of R179 -/

theorem demandByte_eq (d : Demand) :
    demandByte d = [match d with | .on => 0#8 | .off => 1#8 | .lead => 2#8 | .trail => 3#8] := by
  cases d <;> rfl

theorem HandleStatus.byte_eq (st : HandleStatus) :
    st.byte = [match st with | .free => 0#8 | .pending => 1#8 | .active => 2#8 | .retiring => 3#8] := by
  cases st <;> rfl

theorem Kind.byte_eq (k : Kind) :
    k.byte = [match k with | .none => 0#8 | .home => 1#8 | .guest => 2#8 | .span => 3#8] := by
  cases k <;> rfl

theorem Reason.byte_eq : Reason.byte = fun q => [match q with
    | .unsettled => 0#8 | .notVisible => 1#8 | .noLivePanel => 2#8 | .hiddenByFit => 3#8] := by
  funext q
  cases q <;> rfl

theorem Target.byte_eq : Target.byte = fun q => [match q with | .panelA => 0#8 | .panelB => 1#8 | .span => 2#8] := by
  funext q
  cases q <;> rfl

theorem OriginTaken.bytes_eq : OriginTaken.bytes = fun o => (match o.kind with
    | .home => 0#8 | .guest => 1#8 | .centred => 2#8 | .span => 3#8) :: [o.at_.x, o.at_.y].flatMap byte2 := by
  funext ⟨kind, at_⟩
  cases kind <;> rfl

theorem FitApplied.byte_eq : FitApplied.byte = fun q => [match q with
    | .none => 0#8 | .crop => 1#8 | .halve => 2#8 | .hide => 3#8] := by
  funext q
  cases q <;> rfl

theorem LayerField.byte_eq (l : LayerField) : l.byte = [match l with
    | .slot n => BitVec.ofNat 8 n.val | .starved => 6#8 | .notHere => 7#8] := by
  cases l <;> rfl

theorem fitModeByte_eq (m : FitMode) : fitModeByte m = [match m with | .crop => 0#8 | .halve => 1#8 | .hide => 2#8] := by
  cases m <;> rfl

theorem slotByte_eq (slot : ScriptSlot) :
    slotByte slot = [match slot with | .wake => 0#8 | .sleep => 1#8 | .check => 2#8] := by
  cases slot <;> rfl

theorem byte1_stateNumber (st : PanelState) : byte1 st.number = [match st with
    | .dark => 0#8 | .waking => 1#8 | .live => 2#8 | .idle => 3#8 | .sleeping => 4#8 | .fault => 5#8] := by
  cases st <;> rfl

theorem byte1_kindNumber (k : StepKind) : byte1 k.number = [match k with
    | .send => 0#8 | .read => 1#8 | .poll => 2#8 | .wait => 3#8 | .line => 4#8 | .goto => 5#8 | .finish => 6#8] := by
  cases k <;> rfl

theorem byte1_errorNumber (e : StepError) : byte1 e.number = [match e with
    | .noReply => 0#8 | .reported _ => 1#8 | .protocol => 2#8 | .mismatch => 3#8 | .pollTimeout => 4#8
    | .runaway => 5#8] := by
  cases e <;> rfl

theorem FaultKind.byte_eq (k : FaultKind) :
    k.byte = [match k with | .script => 0#8 | .recoveryLimit => 1#8 | .stopped => 2#8] := by
  cases k <;> rfl

theorem stateLeftByte_eq (st : PanelState) : stateLeftByte st = [match st with
    | .waking => 0#8 | .live => 1#8 | .idle => 2#8 | .sleeping => 3#8 | .dark => 4#8 | .fault => 5#8] := by
  cases st <;> rfl

theorem errorSetByte_eq : errorSetByte = fun m => [m.setWidth 8] := by
  funext m
  rw [errorSetByte, byte1, BitVec.ofNat_toNat]

theorem byte1_of_toNat {b : Byte} {n : Nat} (names : b.toNat = n) : byte1 n = [b] := names ▸ byte1_toNat b

theorem byte2_toNat (h : Half) : byte2 h.toNat = halfBytes h := by
  have whole := byte2_half (h.setWidth 8) ((h >>> 8).setWidth 8)
  rwa [half_halfBytes] at whole

/-- The error set of a fault record's step error, when it has one and that is REPORTED. -/
theorem reportedSet_of_option (e : Option StepError) : e.bind StepError.reportedSet =
    match e with | some (.reported m) => some m | _ => none := by
  rcases e with _ | e
  · rfl
  · cases e <;> rfl

theorem reportedSet_of_error (e : StepError) : e.reportedSet =
    match some e with | some (.reported m) => some m | _ => none := by
  cases e <;> rfl

/-- The fields of a fault record, one optional part each (R145). -/
theorem FaultRecord.bytes_eq : FaultRecord.bytes = fun f => f.kind.byte ++ stateLeftByte f.left ++
    optional 1 (fun t => slotByte t.1) f.step ++ optional 1 (fun t => byte1 t.2.1) f.step ++
    optional 1 (fun t => byte1 t.2.2.number) f.step ++ optional 1 (fun e => byte1 e.number) f.error ++
    optional 1 errorSetByte (f.error.bind StepError.reportedSet) := rfl

theorem StepFailure.bytes_eq : StepFailure.bytes = fun f => slotByte f.slot ++ byte1 f.index ++ byte1 f.kind.number ++
    byte1 f.error.number ++ optional 1 errorSetByte f.error.reportedSet := rfl

/-- STAGED's generation when it is present and holds the handle (R66). -/
theorem Table.stagedGen_eq (t : Table) (h : Handle) : (t.staged.bind fun p => p.genIf h) =
    (t.staged.filter fun p => p.view[h].isSome).map Published.gen := by
  cases t.staged with
  | none => rfl
  | some p =>
    rw [Option.bind_some, Published.genIf, View.holds]
    cases held : p.view[h].isSome <;> simpa using held

/-! ## PROFILE READ (R39) -/

/-- The profile that a write carried is read back as the bytes written. -/
theorem Profile.bytes_of_profileOf {f : RawProfile} {q : Profile} (given : profileOf f = some q) :
    q.bytes = rawProfileBytes f := by
  simp only [profileOf, Option.bind_eq_bind, Option.bind_eq_some_iff, Option.pure_def, Option.some.injEq,
    demandOfByte_eq_some, boolOfByte_eq_some] at given
  obtain ⟨demandA, onA, demandB, onB, turnedA, rotA, turnedB, rotB, span, allowed, rfl⟩ := given
  have demand : ∀ {b : Byte} {d : Demand}, b.toNat = d.number → demandByte d = [b] := fun {b d} names =>
    (show demandByte d = byte1 d.number by cases d <;> rfl).trans (byte1_of_toNat names)
  have flag : ∀ {b : Byte} {v : Bool}, b.toNat = v.toNat → byteOfBool v = [b] := fun {b v} names =>
    (show byteOfBool v = byte1 v.toNat by cases v <;> rfl).trans (byte1_of_toNat names)
  simp only [Profile.bytes, rotationByte, demand onA, demand onB, flag rotA, flag rotB, flag allowed]
  rfl

section
variable {s : State} (opened : s.portOpen = true) {b : Byte}
include opened

theorem execProfileRead_range (above : 5 < b.toNat) : execProfileRead b s = .next (s.hold ⟨.range, []⟩) := by
  simp only [execProfileRead, State.onCommand_open opened, postureOfByte_eq_none.2 above, refuse_fst, refuse_snd]

theorem execProfileRead_done {p : Posture} (names : b.toNat = p.number.val) :
    execProfileRead b s = .next (s.hold ⟨.done, (s.posture.profile p).bytes⟩) := by
  simp only [execProfileRead, State.onCommand_open opened, postureOfByte_eq_some.2 names, done_fst, done_snd]

/-! ## ENTRY STATUS, PLACEMENT READ and ENTRY READ -/

theorem execEntryStatus_range (above : 31 < b.toNat) : execEntryStatus b s = .next (s.hold ⟨.range, []⟩) := by
  simp only [execEntryStatus, State.onCommand_open opened, handleOfByte_of_gt above, refuse_fst, refuse_snd]

theorem execPlacementRead_range (above : 31 < b.toNat) : execPlacementRead b s = .next (s.hold ⟨.range, []⟩) := by
  simp only [execPlacementRead, State.onCommand_open opened, handleOfByte_of_gt above, refuse_fst, refuse_snd]

variable {h : Handle}

theorem execEntryStatus_done (names : b.toNat = h.val) :
    execEntryStatus b s = .next (s.hold ⟨.done, s.table.statusData h⟩) := by
  simp only [execEntryStatus, State.onCommand_open opened, handleOfByte_of_eq names, done_fst, done_snd]

theorem execPlacementRead_absent (names : b.toNat = h.val) (hidden : s.comp.records[h].inShown = false) :
    execPlacementRead b s = .next (s.hold ⟨.absent, []⟩) := by
  simp only [execPlacementRead, State.onCommand_open opened, handleOfByte_of_eq names, hidden, Bool.false_eq_true,
    if_false, refuse_fst, refuse_snd]

theorem execPlacementRead_done (names : b.toNat = h.val) (shown : s.comp.records[h].inShown = true) :
    execPlacementRead b s = .next (s.hold ⟨.done, s.comp.records[h].bytes⟩) := by
  simp only [execPlacementRead, State.onCommand_open opened, handleOfByte_of_eq names, shown, if_true, done_fst, done_snd]

variable {v : ViewName} {bv : Byte}

theorem execEntryRead_range (above : 31 < b.toNat ∨ 3 < bv.toNat) :
    execEntryRead b bv s = .next (s.hold ⟨.range, []⟩) := by
  rw [execEntryRead, State.onCommand_open opened]
  rcases above with handle | view
  · rw [handleOfByte_of_gt handle]
    rfl
  · rw [viewOfByte_eq_none.2 view]
    cases handleOfByte b <;> rfl

theorem execEntryRead_absent (names : b.toNat = h.val) (view : viewOfByte bv = some v)
    (absent : s.table.recordIn h v = none) : execEntryRead b bv s = .next (s.hold ⟨.absent, []⟩) := by
  simp only [execEntryRead, State.onCommand_open opened, handleOfByte_of_eq names, view, absent, refuse_fst, refuse_snd]

theorem execEntryRead_done {g : Option Gen} {e : Entry} (names : b.toNat = h.val) (view : viewOfByte bv = some v)
    (present : s.table.recordIn h v = some (g, e)) :
    execEntryRead b bv s = .next (s.hold ⟨.done, b :: bv :: (optional 4 genBytes g ++ e.bytes)⟩) := by
  have handle : handleByte h = [b] := byte1_of_toNat names
  have named : v.byte = [bv] := (show v.byte = byte1 v.number by cases v <;> rfl).trans
    (byte1_of_toNat (viewOfByte_eq_some.1 view))
  simp only [execEntryRead, State.onCommand_open opened, handleOfByte_of_eq names, view, present, done_fst, done_snd,
    handle, named]
  rfl

end

/-- The entry that a bind carried with both origins present is read back as the bytes written. -/
theorem Entry.bytes_of_entryOf {f : RawEntry} {e : Entry} (given : entryOf f = some e)
    (guest : e.guestAt.isSome = true) (span : e.spanAt.isSome = true) : e.bytes = rawEntryBytes f := by
  obtain ⟨source, home, guests, spans, style, tag⟩ := entryOf_eq_some.1 given
  obtain ⟨rect, -⟩ := sourceGroup_eq_some.1 source
  obtain ⟨panel, at_, -⟩ := homeGroup_eq_some.1 home
  obtain ⟨fit, priority, visibility⟩ := styleGroup_eq_some.1 style
  obtain ⟨guestHere, guestAt, -⟩ : f.guestPresent.toNat = 1 ∧ e.guestAt = some ⟨f.gx.toNat, f.gy.toNat⟩ ∧ _ :=
    (guestGroup_eq_some.1 guests).resolve_left fun ⟨_, absent⟩ => by simp [absent] at guest
  obtain ⟨spanHere, spanAt, -⟩ : f.spanPresent.toNat = 1 ∧ e.spanAt = some ⟨f.px.toNat, f.py.toNat⟩ ∧ _ :=
    (spanGroup_eq_some.1 spans).resolve_left fun ⟨_, absent⟩ => by simp [absent] at span
  have homeByte : panelByte e.home = [f.home] :=
    (show panelByte e.home = byte1 (Panel.number e.home) by cases e.home <;> rfl).trans (byte1_of_toNat panel)
  have fitByte : fitModeByte e.fit = [f.fit] :=
    (show fitModeByte e.fit = byte1 e.fit.number by cases e.fit <;> rfl).trans (byte1_of_toNat fit)
  have guestOne : f.guestPresent = 1#8 := BitVec.eq_of_toNat_eq guestHere
  have spanOne : f.spanPresent = 1#8 := BitVec.eq_of_toNat_eq spanHere
  simp only [Entry.bytes, rawEntryBytes, originBytes, optional, rectBytes, pointBytes, tag, rect, at_, guestAt, spanAt,
    homeByte, fitByte, byte1_of_toNat priority.symm, byte1_of_toNat visibility.symm, byte2_toNat, guestOne, spanOne]
  rfl

/-! ## PANEL READ (R150) -/

section
variable {s : State} (opened : s.portOpen = true) {b : Byte}
include opened

theorem execPanelRead_range (above : 1 < b.toNat) : execPanelRead b s = .next (s.hold ⟨.range, []⟩) := by
  simp only [execPanelRead, State.onCommand_open opened, panelOfByte_eq_none.2 above, refuse_fst, refuse_snd]

theorem execPanelRead_done {x : Panel} (names : panelOfByte b = some x) :
    execPanelRead b s = .next (s.hold ⟨.done, panelData s.now s.lingerTime (s.panel x)⟩) := by
  simp only [execPanelRead, State.onCommand_open opened, names, done_fst, done_snd]

/-! ## SCRIPT READ (R158) -/

variable {start count : Byte}

theorem execScriptRead_range (outside : count.toNat = 0 ∨ 4 < count.toNat ∨ 256 < start.toNat + count.toNat) :
    execScriptRead start count s = .next (s.hold ⟨.range, []⟩) := by
  simp only [execScriptRead, State.onCommand_open opened, if_pos outside, refuse_fst, refuse_snd]

theorem execScriptRead_done (wanted : 1 ≤ count.toNat) (few : count.toNat ≤ 4) (inside : start.toNat + count.toNat ≤ 256) :
    execScriptRead start count s = .next (s.hold ⟨.done,
      stepsData s.scripts.steps start.toNat count.toNat ++ s.scripts.slotsA.bytes ++ s.scripts.slotsB.bytes⟩) := by
  have within : ¬ (count.toNat = 0 ∨ 4 < count.toNat ∨ 256 < start.toNat + count.toNat) := by omega
  simp only [execScriptRead, State.onCommand_open opened, if_neg within, done_fst, done_snd]

end

theorem padBytes_length (width : Nat) (l : List Byte) : (padBytes width l).length = width := by
  rw [padBytes, List.length_append, List.length_take, List.length_replicate]
  omega

theorem Step.bytes_length (st : Step) : st.bytes.length = 14 := by
  have body : st.body.bytes.length = 13 := by cases st.body <;> exact padBytes_length 13 _
  rw [Step.bytes, List.length_append, body]
  rfl

section
variable {α : Type} {n : Nat} {f : Nat → List α} {c : Nat}

theorem length_flatMap_range (blocks : ∀ i < c, (f i).length = n) : ((List.range c).flatMap f).length = n * c := by
  induction c with
  | zero => rfl
  | succ c ih =>
    rw [List.range_succ, List.flatMap_append, List.length_append, ih fun i below => blocks i (by omega),
      List.flatMap_singleton, blocks c (by omega), Nat.mul_succ]

/-- The block at an index of blocks of one length. -/
theorem take_drop_flatMap_range (blocks : ∀ i < c, (f i).length = n) {k : Nat} (below : k < c) :
    (((List.range c).flatMap f).drop (n * k)).take n = f k := by
  induction c with
  | zero => exact absurd below (Nat.not_lt_zero k)
  | succ c ih =>
    have before : ∀ i < c, (f i).length = n := fun i below => blocks i (by omega)
    have length := length_flatMap_range before
    rw [List.range_succ, List.flatMap_append, List.flatMap_singleton]
    rcases Nat.lt_succ_iff_lt_or_eq.1 below with inner | rfl
    · have room : n * k + n ≤ n * c := Nat.mul_succ n k ▸ Nat.mul_le_mul_left n inner
      rw [List.drop_append_of_le_length (by omega), List.take_append_of_le_length (by rw [List.length_drop]; omega),
        ih before inner]
    · rw [← length, List.drop_left, ← blocks k (by omega), List.take_length]

end

section
variable {mem : Vector Step 256} {start count : Nat} (inside : start + count ≤ 256)
include inside

/-- One step of SCRIPT READ: its index, then its 14 bytes. -/
theorem stepsData_block {i : Nat} (below : i < count) :
    (if h : start + i < 256 then byte1 (start + i) ++ (mem[start + i]).bytes else []).length = 15 := by
  rw [dif_pos (by omega), List.length_append, Step.bytes_length]
  rfl

theorem stepsData_length : (stepsData mem start count).length = 15 * count :=
  length_flatMap_range fun _ => stepsData_block inside

theorem stepsData_step {k : Nat} {i : StepIndex} (below : k < count) (at_ : i.val = start + k) :
    ((stepsData mem start count).drop (15 * k)).take 15 = BitVec.ofNat 8 i.val :: (mem[i]).bytes := by
  refine (take_drop_flatMap_range (fun _ => stepsData_block inside) below).trans ?_
  obtain ⟨i, small⟩ := i
  cases at_
  exact dif_pos small

end

end Sys2Proof.Machine
open Sys2Proof Sys2Proof.Machine

/-- Settles O53: each indexed read's refusals and the fields of its record. -/
theorem indexedReadsAnswerTheirRecord : Obligations.IndexedReadsAnswerTheirRecord := by
  refine fun s opened => ⟨fun b => ⟨execProfileRead_range opened, fun p names => ⟨?_, fun f given => ?_⟩,
    fun above => ⟨execEntryStatus_range opened above, execPlacementRead_range opened above⟩,
    fun h names => ⟨?_, execPlacementRead_absent opened names, fun shown => ?_⟩⟩,
    fun bh bv => ⟨execEntryRead_range opened, ?_⟩,
    fun b => ⟨execPanelRead_range opened, fun x names => ?_⟩,
    fun start count => ⟨execScriptRead_range opened, fun wanted few inside => ⟨_, ?_, stepsData_length inside,
      fun k i => stepsData_step inside⟩⟩⟩
  · refine answers_of_eq (execProfileRead_done opened names) ?_
    simp only [Profile.bytes, List.flatten_cons, List.flatten_nil, List.append_assoc, List.append_nil, demandByte_eq]
    rfl
  · exact Profile.bytes_of_profileOf given ▸ execProfileRead_done opened names
  · refine answers_of_eq (execEntryStatus_done opened names) ?_
    simp only [Table.statusData, List.flatten_cons, List.flatten_nil, List.append_assoc, List.append_nil,
      HandleStatus.byte_eq, handleByte, byte1_of_toNat names, Table.stagedGen_eq]
    rfl
  · refine answers_of_eq (execPlacementRead_done opened names shown) ?_
    simp only [Record.bytes, List.flatten_cons, List.flatten_nil, List.append_assoc, List.append_nil, Kind.byte_eq,
      Reason.byte_eq, Target.byte_eq, OriginTaken.bytes_eq, FitApplied.byte_eq, LayerField.byte_eq]
    rfl
  · intro h names record small
    obtain ⟨v, view⟩ : ∃ v, viewOfByte bv = some v :=
      Option.ne_none_iff_exists'.1 fun none => absurd (viewOfByte_eq_none.1 none) (by omega)
    have same : record = s.table.recordIn h v := by
      have number := viewOfByte_eq_some.1 view
      simp only [record, number]
      cases v with
      | staged => cases staged : s.table.staged <;> simp [Table.recordIn, ViewName.number, staged]
      | _ => rfl
    clear_value record
    subst same
    refine ⟨execEntryRead_absent opened names view, fun g e present => ⟨?_, fun f given guest span => ?_⟩⟩
    · refine answers_of_eq (execEntryRead_done opened names view present) ?_
      simp only [Entry.bytes, List.flatten_cons, List.flatten_nil, List.append_assoc, List.append_nil, panelByte_eq,
        fitModeByte_eq, byte1, BitVec.ofNat_toNat]
      rfl
    · exact Entry.bytes_of_entryOf given guest span ▸ execEntryRead_done opened names view present
  · refine answers_of_eq (execPanelRead_done opened names) ?_
    simp only [panelData, List.flatten_cons, List.flatten_nil, List.append_assoc, List.append_nil, byte1_stateNumber,
      onOffByte_eq, assertedByte_eq, slotByte_eq, FaultRecord.bytes_eq, StepFailure.bytes_eq, FaultKind.byte_eq,
      stateLeftByte_eq, byte1_kindNumber, byte1_errorNumber, errorSetByte_eq,
      reportedSet_of_option]
    simp only [reportedSet_of_error]
    cases (s.panel x).linger <;> rfl
  · refine answers_of_eq (execScriptRead_done opened wanted few inside) ?_
    simp only [Slots.bytes, List.flatten_cons, List.flatten_nil, List.append_assoc, List.append_nil]
    rfl

end
